-- ==== Sys2Proof/Word.lean ====
section
/-! DEFINITION. The word types: bytes of the registers and of memory, 16-bit addresses (00_scope.md R6). -/

namespace Sys2Proof

/-- A byte: a working register, F, a memory cell, an opcode (00_scope.md R6). -/
abbrev Byte := BitVec 8

/-- A 16-bit word: PC, SP, DP, an address on the bus, the result of EXT (00_scope.md R6). -/
abbrev Word := BitVec 16

end Sys2Proof
end

