-- ==== Sys2Proof/Machine/Bits.lean ====
section
/-! DEFINITION. Byte order, sign extension and the page-confined add: the bit helpers of 00_scope.md R10, R11 and
20_memory.md R58. -/

namespace Sys2Proof.Machine

/-- Bits 7:0 of a 16-bit value, `reg_L` (00_scope.md R10). -/
def lo8 (w : Word) : Byte := w.setWidth 8

/-- Bits 15:8 of a 16-bit value, `reg_H` (00_scope.md R10). -/
def hi8 (w : Word) : Byte := (w >>> 8).setWidth 8

/-- The 16-bit value `hi:lo` (00_scope.md R9, R10). -/
def join16 (hi lo : Byte) : Word := hi ++ lo

/-- `sext_16(v)`: two's complement sign extension (00_scope.md R11; 20_memory.md R61). -/
def sext16 (v : Byte) : Word := v.signExtend 16

/-- `zext_16(v)` (00_scope.md R11). -/
def zext16 (v : Byte) : Word := v.setWidth 16

/-- `padd(r, k)`: the sum within the low 14 bits, bits 15:14 those of `r` (20_memory.md R58). -/
def padd (r k : Word) : Word := (r &&& 0xC000) ||| ((r + k) &&& 0x3FFF)

/-- Bits 15:14 of an address: the 16 KiB page it lies in (00_scope.md glossary; 20_memory.md R58). -/
def pageOf (w : Word) : BitVec 2 := w.extractLsb' 14 2

/-- `IO(s) = 0x8000 + zext_16(s)` (20_memory.md R56). -/
def ioAddress (s : Byte) : Word := 0x8000 + zext16 s

/-- The address of the second byte of a two-byte access, `padd(X, 1)` (20_memory.md R60, decision D10: log 9). -/
def nextAddress (x : Word) : Word := padd x 1

end Sys2Proof.Machine
end

