-- ==== Sys2Proof/Config.lean ====
section
/-! DEFINITION. The named parameters of 00_scope.md R7 that the spec gives no value: constants without a body, so that
nothing can be proved that depends on a particular value. The parameters that are plain data (`MEM_MAP`, `INT_SOURCE`,
`EXT_RESET`) are fields of State instead. -/

namespace Sys2Proof.Config

/-- Which way a byte goes on the bus (20_memory.md R54, R55). -/
inductive Direction where
  | read
  | write
  deriving DecidableEq, Repr

/-- One recorded bus access: its direction, its address and the byte moved (20_memory.md R57). -/
structure BusAccess where
  direction : Direction
  address : Word
  byte : Byte
  deriving DecidableEq, Repr

/-- `MEM_INIT` (20_memory.md R52, 93_implementation_defined.md U6): the byte an address holds at power-on, unknown and
fixed for the run. Free value, log 19. -/
opaque memInit : Word → Byte

/-- `IO_DEVICE` (20_memory.md R57, U8): what a device answers to a read of the address, given the accesses recorded so
far (latest first). The record grows at every draw, so successive answers are unrelated. Free value, log 23. -/
opaque ioDevice : List BusAccess → Word → Byte

/-- The byte a read of an unmapped address delivers (20_memory.md R53, U7: any value). Free value, log 22. -/
opaque unmappedRead : List BusAccess → Word → Byte

/-- What a ROM location holds after a write of the second byte over the first (20_memory.md R53, R55, U7: "whatever
MEM_MAP says"; that the write is ignored is the usual choice and is not stated). Free value, log 21. -/
opaque romWrite : List BusAccess → Word → Byte → Byte → Byte

/-- `DIV0` (43_muldiv.md R375, U1): quotient and remainder bytes of a division of the dividend by zero. Free value,
log 12. -/
opaque div0 : Byte → Byte × Byte

/-- `EXT_H_UNSTATED` (44_ext.md R420, U3): the high result byte of the EXT operation with this selector where the manual
states only the low one; for 0xE5 its low seven bits are used (R423). Free value, log 13. -/
opaque extHighUnstated : Byte → Byte

/-- `EXT_UNDEF` (44_ext.md R441, U2), first point: EXT(0x80, 0xF3), inverse cosine outside its domain. Free value,
log 38. -/
opaque extUndefAcos : Word

/-- `EXT_UNDEF` (44_ext.md R441, U2), second point: EXT(0x80, 0xF4), tangent of minus pi/2. Free value, log 38. -/
opaque extUndefTan : Word

/-- `INT_PTR_HIGH` (60_exceptions.md R457, U4): the vector address for a pointer byte of 128 to 255. Free value,
log 34. -/
opaque vectorHigh : Byte → Word

/-- The duration of an external reset in clocks, which the manual does not give (91_not_in_source.md N25). Free value,
log 31. -/
opaque resetClocks : Nat

end Sys2Proof.Config
end

