-- ==== Sys2Proof/Syntax.lean ====
section
/-! DEFINITION. The abstract syntax: one constructor per row of spec/opcode_table.json, the rows with operand bytes first
(Lean's compiled code takes constructors with arguments only up to a tag of 244), each part in opcode order. A constructor is
named after the row's assembly spelling (`at` for a pair of parentheses, `d` and `D` as printed); its arguments are the
row's operand bytes in memory order (30_encoding.md R74, R77). -/

namespace Sys2Proof

/-- An instruction of the EPROMINT CPU (30_encoding.md R75: all 256 opcodes). -/
inductive Instr where
  /-- 0x0D `LD A, n` (40_load_exchange.md R113). -/
  | ldA_n (n : Byte)
  /-- 0x0E `LD B, n` (40_load_exchange.md R114). -/
  | ldB_n (n : Byte)
  /-- 0x0F `LD C, n` (40_load_exchange.md R115). -/
  | ldC_n (n : Byte)
  /-- 0x10 `LD D, n` (40_load_exchange.md R116). -/
  | ldD_n (n : Byte)
  /-- 0x15 `LD A, (DP + d)` (40_load_exchange.md R121). -/
  | ldA_atDPd (d : Byte)
  /-- 0x16 `LD B, (DP + d)` (40_load_exchange.md R122). -/
  | ldB_atDPd (d : Byte)
  /-- 0x17 `LD A, (DP + D + d)` (40_load_exchange.md R123). -/
  | ldA_atDPDd (d : Byte)
  /-- 0x18 `LD A, (SP + D + d)` (40_load_exchange.md R124). -/
  | ldA_atSPDd (d : Byte)
  /-- 0x19 `LD B, (SP + d)` (40_load_exchange.md R125). -/
  | ldB_atSPd (d : Byte)
  /-- 0x1A `LD C, (SP + d)` (40_load_exchange.md R126). -/
  | ldC_atSPd (d : Byte)
  /-- 0x1B `LD D, (SP + d)` (40_load_exchange.md R127). -/
  | ldD_atSPd (d : Byte)
  /-- 0x1C `LD A, (nn)` (40_load_exchange.md R128). -/
  | ldA_atNN (nn : Word)
  /-- 0x1D `LD B, (nn)` (40_load_exchange.md R129). -/
  | ldB_atNN (nn : Word)
  /-- 0x1E `LD C, (nn)` (40_load_exchange.md R130). -/
  | ldC_atNN (nn : Word)
  /-- 0x1F `LD D, (nn)` (40_load_exchange.md R131). -/
  | ldD_atNN (nn : Word)
  /-- 0x24 `LD (DP + d), A` (40_load_exchange.md R136). -/
  | ldAtDPd_A (d : Byte)
  /-- 0x25 `LD (DP + d), B` (40_load_exchange.md R137). -/
  | ldAtDPd_B (d : Byte)
  /-- 0x26 `LD (DP + D + d), A` (40_load_exchange.md R138). -/
  | ldAtDPDd_A (d : Byte)
  /-- 0x27 `LD (SP + D + d), A` (40_load_exchange.md R139). -/
  | ldAtSPDd_A (d : Byte)
  /-- 0x28 `LD (SP + d), B` (40_load_exchange.md R140). -/
  | ldAtSPd_B (d : Byte)
  /-- 0x29 `LD (SP + d), C` (40_load_exchange.md R141). -/
  | ldAtSPd_C (d : Byte)
  /-- 0x2A `LD (SP + d), D` (40_load_exchange.md R142). -/
  | ldAtSPd_D (d : Byte)
  /-- 0x2B `LD (nn), A` (40_load_exchange.md R143). -/
  | ldAtNN_A (nn : Word)
  /-- 0x2C `LD (nn), B` (40_load_exchange.md R144). -/
  | ldAtNN_B (nn : Word)
  /-- 0x2D `LD (nn), C` (40_load_exchange.md R145). -/
  | ldAtNN_C (nn : Word)
  /-- 0x2E `LD (nn), D` (40_load_exchange.md R146). -/
  | ldAtNN_D (nn : Word)
  /-- 0x2F `LD (nn), n` (40_load_exchange.md R147). -/
  | ldAtNN_n (n : Byte) (nn : Word)
  /-- 0x30 `LD (dd), (ss)` (40_load_exchange.md R148). -/
  | ldAtDD_atSS (ss : Word) (dd : Word)
  /-- 0x36 `LD DP, nn` (40_load_exchange.md R154). -/
  | ldDP_nn (nn : Word)
  /-- 0x37 `LD SP, nn` (40_load_exchange.md R155). -/
  | ldSP_nn (nn : Word)
  /-- 0x38 `LD DP, SP + d` (40_load_exchange.md R156). -/
  | ldDP_SPd (d : Byte)
  /-- 0x3B `EX DP, (nn)` (40_load_exchange.md R159). -/
  | exDP_atNN (nn : Word)
  /-- 0x42 `PUSH n` (41_stack.md R166). -/
  | push_n (n : Byte)
  /-- 0x43 `PUSH (nn)` (41_stack.md R167). -/
  | pushAtNN (nn : Word)
  /-- 0x4A `POP (nn)` (41_stack.md R174). -/
  | popAtNN (nn : Word)
  /-- 0x4E `ADD A, n` (42_alu8.md R178). -/
  | addA_n (n : Byte)
  /-- 0x4F `ADD B, n` (42_alu8.md R179). -/
  | addB_n (n : Byte)
  /-- 0x50 `ADD C, n` (42_alu8.md R180). -/
  | addC_n (n : Byte)
  /-- 0x51 `ADD D, n` (42_alu8.md R181). -/
  | addD_n (n : Byte)
  /-- 0x56 `ADDC A, n` (42_alu8.md R186). -/
  | addcA_n (n : Byte)
  /-- 0x57 `ADDC B, n` (42_alu8.md R187). -/
  | addcB_n (n : Byte)
  /-- 0x58 `ADDC C, n` (42_alu8.md R188). -/
  | addcC_n (n : Byte)
  /-- 0x59 `ADDC D, n` (42_alu8.md R189). -/
  | addcD_n (n : Byte)
  /-- 0x5D `SUB A, n` (42_alu8.md R193). -/
  | subA_n (n : Byte)
  /-- 0x5E `SUB B, n` (42_alu8.md R194). -/
  | subB_n (n : Byte)
  /-- 0x5F `SUB C, n` (42_alu8.md R195). -/
  | subC_n (n : Byte)
  /-- 0x60 `SUB D, n` (42_alu8.md R196). -/
  | subD_n (n : Byte)
  /-- 0x64 `SUBB A, n` (42_alu8.md R200). -/
  | subbA_n (n : Byte)
  /-- 0x65 `SUBB B, n` (42_alu8.md R201). -/
  | subbB_n (n : Byte)
  /-- 0x66 `SUBB C, n` (42_alu8.md R202). -/
  | subbC_n (n : Byte)
  /-- 0x67 `SUBB D, n` (42_alu8.md R203). -/
  | subbD_n (n : Byte)
  /-- 0x74 `INC (nn)` (42_alu8.md R216). -/
  | incAtNN (nn : Word)
  /-- 0x75 `DEC (nn)` (42_alu8.md R217). -/
  | decAtNN (nn : Word)
  /-- 0x7B `AND A, n` (42_alu8_part2.md R223). -/
  | andA_n (n : Byte)
  /-- 0x7C `AND B, n` (42_alu8_part2.md R224). -/
  | andB_n (n : Byte)
  /-- 0x7D `AND C, n` (42_alu8_part2.md R225). -/
  | andC_n (n : Byte)
  /-- 0x7E `AND D, n` (42_alu8_part2.md R226). -/
  | andD_n (n : Byte)
  /-- 0x82 `OR A, n` (42_alu8_part2.md R230). -/
  | orA_n (n : Byte)
  /-- 0x83 `OR B, n` (42_alu8_part2.md R231). -/
  | orB_n (n : Byte)
  /-- 0x84 `OR C, n` (42_alu8_part2.md R232). -/
  | orC_n (n : Byte)
  /-- 0x85 `OR D, n` (42_alu8_part2.md R233). -/
  | orD_n (n : Byte)
  /-- 0x89 `XOR A, n` (42_alu8_part2.md R237). -/
  | xorA_n (n : Byte)
  /-- 0x8A `XOR B, n` (42_alu8_part2.md R238). -/
  | xorB_n (n : Byte)
  /-- 0x8B `XOR C, n` (42_alu8_part2.md R239). -/
  | xorC_n (n : Byte)
  /-- 0x8C `XOR D, n` (42_alu8_part2.md R240). -/
  | xorD_n (n : Byte)
  /-- 0x90 `MUL A, n` (43_muldiv.md R244). -/
  | mulA_n (n : Byte)
  /-- 0x95 `DIV A, n` (43_muldiv.md R249). -/
  | divA_n (n : Byte)
  /-- 0x9A `EXTDIR A, oper` (44_ext.md R254). -/
  | extdirA_oper (oper : Byte)
  /-- 0x9D `EXTDIRL A, oper` (44_ext.md R257). -/
  | extdirlA_oper (oper : Byte)
  /-- 0xA1 `ADD DP, d` (45_addr16.md R261). -/
  | addDP_d (d : Byte)
  /-- 0xA5 `ADD SP, d` (45_addr16.md R265). -/
  | addSP_d (d : Byte)
  /-- 0xA7 `CP A, n` (42_alu8_part2.md R267). -/
  | cpA_n (n : Byte)
  /-- 0xA8 `CP B, n` (42_alu8_part2.md R268). -/
  | cpB_n (n : Byte)
  /-- 0xA9 `CP C, n` (42_alu8_part2.md R269). -/
  | cpC_n (n : Byte)
  /-- 0xAA `CP D, n` (42_alu8_part2.md R270). -/
  | cpD_n (n : Byte)
  /-- 0xAC `CP (DP), n` (42_alu8_part2.md R272). -/
  | cpAtDP_n (n : Byte)
  /-- 0xAD `TEST A, n` (42_alu8_part2.md R273). -/
  | testA_n (n : Byte)
  /-- 0xAE `LD C, (DP + d)` (40_load_exchange.md R274). -/
  | ldC_atDPd (d : Byte)
  /-- 0xAF `LD D, (DP + d)` (40_load_exchange.md R275). -/
  | ldD_atDPd (d : Byte)
  /-- 0xB0 `LD (DP + d), C` (40_load_exchange.md R276). -/
  | ldAtDPd_C (d : Byte)
  /-- 0xB1 `LD (DP + d), D` (40_load_exchange.md R277). -/
  | ldAtDPd_D (d : Byte)
  /-- 0xB2 `LD A, (SP + d)` (40_load_exchange.md R278). -/
  | ldA_atSPd (d : Byte)
  /-- 0xB3 `LD (SP + d), A` (40_load_exchange.md R279). -/
  | ldAtSPd_A (d : Byte)
  /-- 0xB5 `LD DP, CD + d` (40_load_exchange.md R281). -/
  | ldDP_CDd (d : Byte)
  /-- 0xB6 `ADD CD, nn` (45_addr16.md R282). -/
  | addCD_nn (nn : Word)
  /-- 0xB7 `SUB CD, nn` (45_addr16.md R283). -/
  | subCD_nn (nn : Word)
  /-- 0xB8 `ADD (DP), n` (42_alu8_part2.md R284). -/
  | addAtDP_n (n : Byte)
  /-- 0xB9 `ADDC (DP), n` (42_alu8_part2.md R285). -/
  | addcAtDP_n (n : Byte)
  /-- 0xBA `SUB (DP), n` (42_alu8_part2.md R286). -/
  | subAtDP_n (n : Byte)
  /-- 0xBB `SUBB (DP), n` (42_alu8_part2.md R287). -/
  | subbAtDP_n (n : Byte)
  /-- 0xBE `AND (DP), n` (42_alu8_part2.md R290). -/
  | andAtDP_n (n : Byte)
  /-- 0xC1 `OR (DP), n` (42_alu8_part2.md R293). -/
  | orAtDP_n (n : Byte)
  /-- 0xC4 `XOR (DP), n` (42_alu8_part2.md R296). -/
  | xorAtDP_n (n : Byte)
  /-- 0xC5 `JP nn` (46_control.md R297). -/
  | jp_nn (nn : Word)
  /-- 0xC6 `JP C, nn` (46_control.md R298). -/
  | jpC_nn (nn : Word)
  /-- 0xC7 `JP OV, nn` (46_control.md R299). -/
  | jpOV_nn (nn : Word)
  /-- 0xC8 `JP Z, nn` (46_control.md R300). -/
  | jpZ_nn (nn : Word)
  /-- 0xC9 `JP NEG, nn` (46_control.md R301). -/
  | jpNEG_nn (nn : Word)
  /-- 0xCA `JP POS, nn` (46_control.md R302). -/
  | jpPOS_nn (nn : Word)
  /-- 0xCB `JP EQ, nn` (46_control.md R303). -/
  | jpEQ_nn (nn : Word)
  /-- 0xCC `JP LT, nn` (46_control.md R304). -/
  | jpLT_nn (nn : Word)
  /-- 0xCD `JP GT, nn` (46_control.md R305). -/
  | jpGT_nn (nn : Word)
  /-- 0xCE `JP DP + d` (46_control.md R306). -/
  | jpDPd (d : Byte)
  /-- 0xCF `JR d` (46_control.md R307). -/
  | jr_d (d : Byte)
  /-- 0xD0 `JR C, d` (46_control.md R308). -/
  | jrC_d (d : Byte)
  /-- 0xD2 `JR OV, d` (46_control.md R310). -/
  | jrOV_d (d : Byte)
  /-- 0xD3 `JR Z, d` (46_control.md R311). -/
  | jrZ_d (d : Byte)
  /-- 0xD4 `JR NEG, d` (46_control.md R312). -/
  | jrNEG_d (d : Byte)
  /-- 0xD5 `JR POS, d` (46_control.md R313). -/
  | jrPOS_d (d : Byte)
  /-- 0xD6 `JR EQ, d` (46_control.md R314). -/
  | jrEQ_d (d : Byte)
  /-- 0xD7 `JR LT, d` (46_control.md R315). -/
  | jrLT_d (d : Byte)
  /-- 0xD8 `JR GT, d` (46_control.md R316). -/
  | jrGT_d (d : Byte)
  /-- 0xD9 `JR NC, d` (46_control.md R317). -/
  | jrNC_d (d : Byte)
  /-- 0xDA `JR NOV, d` (46_control.md R318). -/
  | jrNOV_d (d : Byte)
  /-- 0xDB `JR NZ, d` (46_control.md R319). -/
  | jrNZ_d (d : Byte)
  /-- 0xDC `JR NNEG, d` (46_control.md R320). -/
  | jrNNEG_d (d : Byte)
  /-- 0xDD `JR NPOS, d` (46_control.md R321). -/
  | jrNPOS_d (d : Byte)
  /-- 0xDE `JR NEQ, d` (46_control.md R322). -/
  | jrNEQ_d (d : Byte)
  /-- 0xDF `JR NLT, d` (46_control.md R323). -/
  | jrNLT_d (d : Byte)
  /-- 0xE0 `JR NGT, d` (46_control.md R324). -/
  | jrNGT_d (d : Byte)
  /-- 0xE2 `DJNZ d` (46_control.md R326). -/
  | djnz_d (d : Byte)
  /-- 0xE3 `CALL nn` (46_control.md R327). -/
  | call_nn (nn : Word)
  /-- 0xE4 `CALLR d` (46_control.md R328). -/
  | callr_d (d : Byte)
  /-- 0xE5 `CALL DP + d` (46_control.md R329). -/
  | callDPd (d : Byte)
  /-- 0xE8 `OUT (s), A` (47_io.md R332). -/
  | outAtS_A (sel : Byte)
  /-- 0xE9 `OUT (s), B` (47_io.md R333). -/
  | outAtS_B (sel : Byte)
  /-- 0xEA `OUT (s), C` (47_io.md R334). -/
  | outAtS_C (sel : Byte)
  /-- 0xEB `OUT (s), D` (47_io.md R335). -/
  | outAtS_D (sel : Byte)
  /-- 0xEC `OUT (s), n` (47_io.md R336). -/
  | outAtS_n (n : Byte) (sel : Byte)
  /-- 0xED `OUT (s), (DP)` (47_io.md R337). -/
  | outAtS_atDP (sel : Byte)
  /-- 0xEE `OUTI (s), (DP)` (47_io.md R338). -/
  | outiAtS_atDP (sel : Byte)
  /-- 0xEF `OUTD (s), (DP)` (47_io.md R339). -/
  | outdAtS_atDP (sel : Byte)
  /-- 0xF0 `IN A, (s)` (47_io.md R340). -/
  | inA_atS (sel : Byte)
  /-- 0xF1 `IN B, (s)` (47_io.md R341). -/
  | inB_atS (sel : Byte)
  /-- 0xF2 `IN C, (s)` (47_io.md R342). -/
  | inC_atS (sel : Byte)
  /-- 0xF3 `IN D, (s)` (47_io.md R343). -/
  | inD_atS (sel : Byte)
  /-- 0xF4 `IN (DP), (s)` (47_io.md R344). -/
  | inAtDP_atS (sel : Byte)
  /-- 0xF5 `INI (DP), (s)` (47_io.md R345). -/
  | iniAtDP_atS (sel : Byte)
  /-- 0xF6 `IND (DP), (s)` (47_io.md R346). -/
  | indAtDP_atS (sel : Byte)
  /-- 0xF7 `INCIO (s)` (47_io.md R347). -/
  | incioAtS (sel : Byte)
  /-- 0xF8 `DECIO (s)` (47_io.md R348). -/
  | decioAtS (sel : Byte)
  /-- 0xF9 `ANDIO (s), A` (47_io.md R349). -/
  | andioAtS_A (sel : Byte)
  /-- 0xFA `ANDIO (s), n` (47_io.md R350). -/
  | andioAtS_n (sel : Byte) (n : Byte)
  /-- 0xFB `ORIO (s), A` (47_io.md R351). -/
  | orioAtS_A (sel : Byte)
  /-- 0xFC `ORIO (s), n` (47_io.md R352). -/
  | orioAtS_n (sel : Byte) (n : Byte)
  /-- 0xFD `XORIO (s), A` (47_io.md R353). -/
  | xorioAtS_A (sel : Byte)
  /-- 0xFE `XORIO (s), n` (47_io.md R354). -/
  | xorioAtS_n (sel : Byte) (n : Byte)
  /-- 0x00 `NOP` (46_control.md R100). -/
  | nop
  /-- 0x01 `LD A, B` (40_load_exchange.md R101). -/
  | ldA_B
  /-- 0x02 `LD A, C` (40_load_exchange.md R102). -/
  | ldA_C
  /-- 0x03 `LD A, D` (40_load_exchange.md R103). -/
  | ldA_D
  /-- 0x04 `LD B, A` (40_load_exchange.md R104). -/
  | ldB_A
  /-- 0x05 `LD B, C` (40_load_exchange.md R105). -/
  | ldB_C
  /-- 0x06 `LD B, D` (40_load_exchange.md R106). -/
  | ldB_D
  /-- 0x07 `LD C, A` (40_load_exchange.md R107). -/
  | ldC_A
  /-- 0x08 `LD C, B` (40_load_exchange.md R108). -/
  | ldC_B
  /-- 0x09 `LD C, D` (40_load_exchange.md R109). -/
  | ldC_D
  /-- 0x0A `LD D, A` (40_load_exchange.md R110). -/
  | ldD_A
  /-- 0x0B `LD D, B` (40_load_exchange.md R111). -/
  | ldD_B
  /-- 0x0C `LD D, C` (40_load_exchange.md R112). -/
  | ldD_C
  /-- 0x11 `LD A, (DP)` (40_load_exchange.md R117). -/
  | ldA_atDP
  /-- 0x12 `LD B, (DP)` (40_load_exchange.md R118). -/
  | ldB_atDP
  /-- 0x13 `LD C, (DP)` (40_load_exchange.md R119). -/
  | ldC_atDP
  /-- 0x14 `LD D, (DP)` (40_load_exchange.md R120). -/
  | ldD_atDP
  /-- 0x20 `LD (DP), A` (40_load_exchange.md R132). -/
  | ldAtDP_A
  /-- 0x21 `LD (DP), B` (40_load_exchange.md R133). -/
  | ldAtDP_B
  /-- 0x22 `LD (DP), C` (40_load_exchange.md R134). -/
  | ldAtDP_C
  /-- 0x23 `LD (DP), D` (40_load_exchange.md R135). -/
  | ldAtDP_D
  /-- 0x31 `LD A, (CD)` (40_load_exchange.md R149). -/
  | ldA_atCD
  /-- 0x32 `LD (CD), A` (40_load_exchange.md R150). -/
  | ldAtCD_A
  /-- 0x33 `LD CD, (DP)` (40_load_exchange.md R151). -/
  | ldCD_atDP
  /-- 0x34 `LD (DP), CD` (40_load_exchange.md R152). -/
  | ldAtDP_CD
  /-- 0x35 `LD DP, AB` (40_load_exchange.md R153). -/
  | ldDP_AB
  /-- 0x39 `EX AB, CD` (40_load_exchange.md R157). -/
  | exAB_CD
  /-- 0x3A `EX CD, DP` (40_load_exchange.md R158). -/
  | exCD_DP
  /-- 0x3C `PUSH A` (41_stack.md R160). -/
  | pushA
  /-- 0x3D `PUSH B` (41_stack.md R161). -/
  | pushB
  /-- 0x3E `PUSH F` (41_stack.md R162). -/
  | pushF
  /-- 0x3F `PUSH CD` (41_stack.md R163). -/
  | pushCD
  /-- 0x40 `PUSH DP` (41_stack.md R164). -/
  | pushDP
  /-- 0x41 `PUSH ALL` (41_stack.md R165). -/
  | pushALL
  /-- 0x44 `POP A` (41_stack.md R168). -/
  | popA
  /-- 0x45 `POP B` (41_stack.md R169). -/
  | popB
  /-- 0x46 `POP F` (41_stack.md R170). -/
  | popF
  /-- 0x47 `POP CD` (41_stack.md R171). -/
  | popCD
  /-- 0x48 `POP DP` (41_stack.md R172). -/
  | popDP
  /-- 0x49 `POP ALL` (41_stack.md R173). -/
  | popALL
  /-- 0x4B `ADD A, B` (42_alu8.md R175). -/
  | addA_B
  /-- 0x4C `ADD A, C` (42_alu8.md R176). -/
  | addA_C
  /-- 0x4D `ADD A, D` (42_alu8.md R177). -/
  | addA_D
  /-- 0x52 `ADDC A, A` (42_alu8.md R182). -/
  | addcA_A
  /-- 0x53 `ADDC A, B` (42_alu8.md R183). -/
  | addcA_B
  /-- 0x54 `ADDC A, C` (42_alu8.md R184). -/
  | addcA_C
  /-- 0x55 `ADDC A, D` (42_alu8.md R185). -/
  | addcA_D
  /-- 0x5A `SUB A, B` (42_alu8.md R190). -/
  | subA_B
  /-- 0x5B `SUB A, C` (42_alu8.md R191). -/
  | subA_C
  /-- 0x5C `SUB A, D` (42_alu8.md R192). -/
  | subA_D
  /-- 0x61 `SUBB A, B` (42_alu8.md R197). -/
  | subbA_B
  /-- 0x62 `SUBB A, C` (42_alu8.md R198). -/
  | subbA_C
  /-- 0x63 `SUBB A, D` (42_alu8.md R199). -/
  | subbA_D
  /-- 0x68 `ADD A, (DP)` (42_alu8.md R204). -/
  | addA_atDP
  /-- 0x69 `ADDC A, (DP)` (42_alu8.md R205). -/
  | addcA_atDP
  /-- 0x6A `SUB A, (DP)` (42_alu8.md R206). -/
  | subA_atDP
  /-- 0x6B `SUBB A, (DP)` (42_alu8.md R207). -/
  | subbA_atDP
  /-- 0x6C `ADD (DP), A` (42_alu8.md R208). -/
  | addAtDP_A
  /-- 0x6D `ADDC (DP), A` (42_alu8.md R209). -/
  | addcAtDP_A
  /-- 0x6E `SUB (DP), A` (42_alu8.md R210). -/
  | subAtDP_A
  /-- 0x6F `SUBB (DP), A` (42_alu8.md R211). -/
  | subbAtDP_A
  /-- 0x70 `INC A` (42_alu8.md R212). -/
  | incA
  /-- 0x71 `DEC A` (42_alu8.md R213). -/
  | decA
  /-- 0x72 `INC (DP)` (42_alu8.md R214). -/
  | incAtDP
  /-- 0x73 `DEC (DP)` (42_alu8.md R215). -/
  | decAtDP
  /-- 0x76 `CLR A` (42_alu8.md R218). -/
  | clrA
  /-- 0x77 `CPL A` (42_alu8.md R219). -/
  | cplA
  /-- 0x78 `AND A, B` (42_alu8_part2.md R220). -/
  | andA_B
  /-- 0x79 `AND A, C` (42_alu8_part2.md R221). -/
  | andA_C
  /-- 0x7A `AND A, D` (42_alu8_part2.md R222). -/
  | andA_D
  /-- 0x7F `OR A, B` (42_alu8_part2.md R227). -/
  | orA_B
  /-- 0x80 `OR A, C` (42_alu8_part2.md R228). -/
  | orA_C
  /-- 0x81 `OR A, D` (42_alu8_part2.md R229). -/
  | orA_D
  /-- 0x86 `XOR A, B` (42_alu8_part2.md R234). -/
  | xorA_B
  /-- 0x87 `XOR A, C` (42_alu8_part2.md R235). -/
  | xorA_C
  /-- 0x88 `XOR A, D` (42_alu8_part2.md R236). -/
  | xorA_D
  /-- 0x8D `CP A, C` (42_alu8_part2.md R241). -/
  | cpA_C
  /-- 0x8E `CP A, D` (42_alu8_part2.md R242). -/
  | cpA_D
  /-- 0x8F `MUL AB` (43_muldiv.md R243). -/
  | mulAB
  /-- 0x91 `MUL (DP), AB` (43_muldiv.md R245). -/
  | mulAtDP_AB
  /-- 0x92 `MUL CD, AB` (43_muldiv.md R246). -/
  | mulCD_AB
  /-- 0x93 `MUL16 AB, C` (43_muldiv.md R247). -/
  | mul16AB_C
  /-- 0x94 `DIV A, B` (43_muldiv.md R248). -/
  | divA_B
  /-- 0x96 `DIV (DP), AB` (43_muldiv.md R250). -/
  | divAtDP_AB
  /-- 0x97 `DIV CD, AB` (43_muldiv.md R251). -/
  | divCD_AB
  /-- 0x98 `DIVNR A, B` (43_muldiv.md R252). -/
  | divnrA_B
  /-- 0x99 `EXT A` (44_ext.md R253). -/
  | extA
  /-- 0x9B `EXT (DP), A` (44_ext.md R255). -/
  | extAtDP_A
  /-- 0x9C `EXT CD, A` (44_ext.md R256). -/
  | extCD_A
  /-- 0x9E `INC DP` (45_addr16.md R258). -/
  | incDP
  /-- 0x9F `DEC DP` (45_addr16.md R259). -/
  | decDP
  /-- 0xA0 `ADD DP, A` (45_addr16.md R260). -/
  | addDP_A
  /-- 0xA2 `ADD CD, AB` (45_addr16.md R262). -/
  | addCD_AB
  /-- 0xA3 `SUB CD, AB` (45_addr16.md R263). -/
  | subCD_AB
  /-- 0xA4 `ADD SP, A` (45_addr16.md R264). -/
  | addSP_A
  /-- 0xA6 `CP A, B` (42_alu8_part2.md R266). -/
  | cpA_B
  /-- 0xAB `CP A, (DP)` (42_alu8_part2.md R271). -/
  | cpA_atDP
  /-- 0xB4 `LD CD, SP` (40_load_exchange.md R280). -/
  | ldCD_SP
  /-- 0xBC `AND A, (DP)` (42_alu8_part2.md R288). -/
  | andA_atDP
  /-- 0xBD `AND (DP), A` (42_alu8_part2.md R289). -/
  | andAtDP_A
  /-- 0xBF `OR A, (DP)` (42_alu8_part2.md R291). -/
  | orA_atDP
  /-- 0xC0 `OR (DP), A` (42_alu8_part2.md R292). -/
  | orAtDP_A
  /-- 0xC2 `XOR A, (DP)` (42_alu8_part2.md R294). -/
  | xorA_atDP
  /-- 0xC3 `XOR (DP), A` (42_alu8_part2.md R295). -/
  | xorAtDP_A
  /-- 0xD1 `DI` (46_control.md R309). -/
  | di
  /-- 0xE1 `EI` (46_control.md R325). -/
  | ei
  /-- 0xE6 `RET` (46_control.md R330). -/
  | ret
  /-- 0xE7 `RETI` (46_control.md R331). -/
  | reti
  /-- 0xFF `RESET` (46_control.md R355). -/
  | reset
  deriving DecidableEq, Repr

end Sys2Proof
end

