-- ==== Sys2Proof/WellFormed.lean ====
section
/-! DEFINITION. What a well-formed instruction is. Every value of every operand is legal (30_encoding.md R73, R75, R82),
so every term of Instr is well-formed; what can be ill-formed is a byte string that is to be ONE instruction: its length
must be that of its opcode's format (R70, R74, R80). -/

namespace Sys2Proof

/-- The ten formats of 30_encoding.md R74. -/
inductive Format where
  | F0 | Fn | Fd | Fs | Foper | Fnn | Fn_s | Fs_n | Fn_nn | Fss_dd
  deriving DecidableEq, Repr

/-- The length in bytes of an instruction of the format, the opcode included (30_encoding.md R74). -/
def Format.length : Format → Nat
  | .F0 => 1
  | .Fn | .Fd | .Fs | .Foper => 2
  | .Fnn | .Fn_s | .Fs_n => 3
  | .Fn_nn => 4
  | .Fss_dd => 5

/-- Whether a number lies in one of the closed ranges. -/
def inRanges (ranges : List (Nat × Nat)) (n : Nat) : Bool :=
  ranges.any fun r => decide (r.1 ≤ n) && decide (n ≤ r.2)

/-- The format of every opcode, as 30_encoding.md R80 lists the ranges. -/
def formatOf (opcode : Byte) : Format :=
  let o := opcode.toNat
  if inRanges [(0x0D, 0x10), (0x42, 0x42), (0x4E, 0x51), (0x56, 0x59), (0x5D, 0x60), (0x64, 0x67), (0x7B, 0x7E),
      (0x82, 0x85), (0x89, 0x8C), (0x90, 0x90), (0x95, 0x95), (0xA7, 0xAA), (0xAC, 0xAC), (0xAD, 0xAD), (0xB8, 0xBB),
      (0xBE, 0xBE), (0xC1, 0xC1), (0xC4, 0xC4)] o then .Fn
  else if inRanges [(0x15, 0x1B), (0x24, 0x2A), (0x38, 0x38), (0xA1, 0xA1), (0xA5, 0xA5), (0xAE, 0xB3), (0xB5, 0xB5),
      (0xCE, 0xD0), (0xD2, 0xE0), (0xE2, 0xE2), (0xE4, 0xE4), (0xE5, 0xE5)] o then .Fd
  else if inRanges [(0x1C, 0x1F), (0x2B, 0x2E), (0x36, 0x36), (0x37, 0x37), (0x3B, 0x3B), (0x43, 0x43), (0x4A, 0x4A),
      (0x74, 0x74), (0x75, 0x75), (0xB6, 0xB6), (0xB7, 0xB7), (0xC5, 0xCD), (0xE3, 0xE3)] o then .Fnn
  else if inRanges [(0xE8, 0xEB), (0xED, 0xF9), (0xFB, 0xFB), (0xFD, 0xFD)] o then .Fs
  else if inRanges [(0x9A, 0x9A), (0x9D, 0x9D)] o then .Foper
  else if o = 0xEC then .Fn_s
  else if inRanges [(0xFA, 0xFA), (0xFC, 0xFC), (0xFE, 0xFE)] o then .Fs_n
  else if o = 0x2F then .Fn_nn
  else if o = 0x30 then .Fss_dd
  else .F0

/-- A byte string is one whole instruction: it has an opcode byte, and as many bytes as the opcode's format. -/
def bytesWellFormed : List Byte → Bool
  | [] => false
  | op :: operands => decide (operands.length + 1 = (formatOf op).length)

/-- Every instruction with every operand value is well-formed (30_encoding.md R73: "every one of the 256 (or 65536)
values of every operand is legal"). -/
def Instr.wellFormed (_ : Instr) : Bool := true

end Sys2Proof
end

