-- ==== Sys2Proof/Decode.lean ====
section
/-! DEFINITION. The decoder, total on any bytes, from the opcode table of 30_encoding.md, and the encoder written from the
same table (R70 to R83). -/

namespace Sys2Proof

open Sys2Proof.Machine (lo8 hi8 join16)

/-- Why a byte string does not start with an instruction. -/
inductive DecodeError where
  /-- There is no opcode byte. -/
  | empty
  /-- The opcode has no row; every opcode has one (30_encoding.md R75). -/
  | undefined (opcode : Byte)
  /-- An operand byte of this opcode is missing (30_encoding.md R70, R74). -/
  | truncated (opcode : Byte)
  deriving DecidableEq, Repr

/-- One row of the opcode table: the format and the instruction made of the operands (30_encoding.md R74). -/
inductive Row where
  | f0 (i : Instr)
  | fn (k : Byte → Instr)
  | fd (k : Byte → Instr)
  | fs (k : Byte → Instr)
  | foper (k : Byte → Instr)
  | fnn (k : Word → Instr)
  | fn_s (k : Byte → Byte → Instr)
  | fs_n (k : Byte → Byte → Instr)
  | fn_nn (k : Byte → Word → Instr)
  | fss_dd (k : Word → Word → Instr)

/-- The format of a row (30_encoding.md R74). -/
def Row.format : Row → Format
  | .f0 _ => .F0
  | .fn _ => .Fn
  | .fd _ => .Fd
  | .fs _ => .Fs
  | .foper _ => .Foper
  | .fnn _ => .Fnn
  | .fn_s _ => .Fn_s
  | .fs_n _ => .Fs_n
  | .fn_nn _ => .Fn_nn
  | .fss_dd _ => .Fss_dd

/-- The instruction of a row from the operand bytes that follow the opcode, two-byte operands low byte first
(30_encoding.md R72, R74), and the bytes left over. -/
def Row.read : Row → List Byte → Option (Instr × List Byte)
  | .f0 i, rest => some (i, rest)
  | .fn k, n :: rest => some (k n, rest)
  | .fd k, d :: rest => some (k d, rest)
  | .fs k, s :: rest => some (k s, rest)
  | .foper k, oper :: rest => some (k oper, rest)
  | .fnn k, lo :: hi :: rest => some (k (join16 hi lo), rest)
  | .fn_s k, n :: s :: rest => some (k n s, rest)
  | .fs_n k, s :: n :: rest => some (k s n, rest)
  | .fn_nn k, n :: lo :: hi :: rest => some (k n (join16 hi lo), rest)
  | .fss_dd k, slo :: shi :: dlo :: dhi :: rest => some (k (join16 shi slo) (join16 dhi dlo), rest)
  | _, _ => none

/-- Opcodes 0x00 to 0x0F. -/
def rows0 : List Row :=
  [.f0 .nop, .f0 .ldA_B, .f0 .ldA_C, .f0 .ldA_D, .f0 .ldB_A, .f0 .ldB_C, .f0 .ldB_D, .f0 .ldC_A, .f0 .ldC_B,
   .f0 .ldC_D, .f0 .ldD_A, .f0 .ldD_B, .f0 .ldD_C, .fn .ldA_n, .fn .ldB_n, .fn .ldC_n]

/-- Opcodes 0x10 to 0x1F. -/
def rows1 : List Row :=
  [.fn .ldD_n, .f0 .ldA_atDP, .f0 .ldB_atDP, .f0 .ldC_atDP, .f0 .ldD_atDP, .fd .ldA_atDPd, .fd .ldB_atDPd,
   .fd .ldA_atDPDd, .fd .ldA_atSPDd, .fd .ldB_atSPd, .fd .ldC_atSPd, .fd .ldD_atSPd, .fnn .ldA_atNN,
   .fnn .ldB_atNN, .fnn .ldC_atNN, .fnn .ldD_atNN]

/-- Opcodes 0x20 to 0x2F. -/
def rows2 : List Row :=
  [.f0 .ldAtDP_A, .f0 .ldAtDP_B, .f0 .ldAtDP_C, .f0 .ldAtDP_D, .fd .ldAtDPd_A, .fd .ldAtDPd_B, .fd .ldAtDPDd_A,
   .fd .ldAtSPDd_A, .fd .ldAtSPd_B, .fd .ldAtSPd_C, .fd .ldAtSPd_D, .fnn .ldAtNN_A, .fnn .ldAtNN_B, .fnn .ldAtNN_C,
   .fnn .ldAtNN_D, .fn_nn .ldAtNN_n]

/-- Opcodes 0x30 to 0x3F. -/
def rows3 : List Row :=
  [.fss_dd .ldAtDD_atSS, .f0 .ldA_atCD, .f0 .ldAtCD_A, .f0 .ldCD_atDP, .f0 .ldAtDP_CD, .f0 .ldDP_AB, .fnn .ldDP_nn,
   .fnn .ldSP_nn, .fd .ldDP_SPd, .f0 .exAB_CD, .f0 .exCD_DP, .fnn .exDP_atNN, .f0 .pushA, .f0 .pushB, .f0 .pushF,
   .f0 .pushCD]

/-- Opcodes 0x40 to 0x4F. -/
def rows4 : List Row :=
  [.f0 .pushDP, .f0 .pushALL, .fn .push_n, .fnn .pushAtNN, .f0 .popA, .f0 .popB, .f0 .popF, .f0 .popCD, .f0 .popDP,
   .f0 .popALL, .fnn .popAtNN, .f0 .addA_B, .f0 .addA_C, .f0 .addA_D, .fn .addA_n, .fn .addB_n]

/-- Opcodes 0x50 to 0x5F. -/
def rows5 : List Row :=
  [.fn .addC_n, .fn .addD_n, .f0 .addcA_A, .f0 .addcA_B, .f0 .addcA_C, .f0 .addcA_D, .fn .addcA_n, .fn .addcB_n,
   .fn .addcC_n, .fn .addcD_n, .f0 .subA_B, .f0 .subA_C, .f0 .subA_D, .fn .subA_n, .fn .subB_n, .fn .subC_n]

/-- Opcodes 0x60 to 0x6F. -/
def rows6 : List Row :=
  [.fn .subD_n, .f0 .subbA_B, .f0 .subbA_C, .f0 .subbA_D, .fn .subbA_n, .fn .subbB_n, .fn .subbC_n, .fn .subbD_n,
   .f0 .addA_atDP, .f0 .addcA_atDP, .f0 .subA_atDP, .f0 .subbA_atDP, .f0 .addAtDP_A, .f0 .addcAtDP_A,
   .f0 .subAtDP_A, .f0 .subbAtDP_A]

/-- Opcodes 0x70 to 0x7F. -/
def rows7 : List Row :=
  [.f0 .incA, .f0 .decA, .f0 .incAtDP, .f0 .decAtDP, .fnn .incAtNN, .fnn .decAtNN, .f0 .clrA, .f0 .cplA,
   .f0 .andA_B, .f0 .andA_C, .f0 .andA_D, .fn .andA_n, .fn .andB_n, .fn .andC_n, .fn .andD_n, .f0 .orA_B]

/-- Opcodes 0x80 to 0x8F. -/
def rows8 : List Row :=
  [.f0 .orA_C, .f0 .orA_D, .fn .orA_n, .fn .orB_n, .fn .orC_n, .fn .orD_n, .f0 .xorA_B, .f0 .xorA_C, .f0 .xorA_D,
   .fn .xorA_n, .fn .xorB_n, .fn .xorC_n, .fn .xorD_n, .f0 .cpA_C, .f0 .cpA_D, .f0 .mulAB]

/-- Opcodes 0x90 to 0x9F. -/
def rows9 : List Row :=
  [.fn .mulA_n, .f0 .mulAtDP_AB, .f0 .mulCD_AB, .f0 .mul16AB_C, .f0 .divA_B, .fn .divA_n, .f0 .divAtDP_AB,
   .f0 .divCD_AB, .f0 .divnrA_B, .f0 .extA, .foper .extdirA_oper, .f0 .extAtDP_A, .f0 .extCD_A,
   .foper .extdirlA_oper, .f0 .incDP, .f0 .decDP]

/-- Opcodes 0xA0 to 0xAF. -/
def rowsA : List Row :=
  [.f0 .addDP_A, .fd .addDP_d, .f0 .addCD_AB, .f0 .subCD_AB, .f0 .addSP_A, .fd .addSP_d, .f0 .cpA_B, .fn .cpA_n,
   .fn .cpB_n, .fn .cpC_n, .fn .cpD_n, .f0 .cpA_atDP, .fn .cpAtDP_n, .fn .testA_n, .fd .ldC_atDPd, .fd .ldD_atDPd]

/-- Opcodes 0xB0 to 0xBF. -/
def rowsB : List Row :=
  [.fd .ldAtDPd_C, .fd .ldAtDPd_D, .fd .ldA_atSPd, .fd .ldAtSPd_A, .f0 .ldCD_SP, .fd .ldDP_CDd, .fnn .addCD_nn,
   .fnn .subCD_nn, .fn .addAtDP_n, .fn .addcAtDP_n, .fn .subAtDP_n, .fn .subbAtDP_n, .f0 .andA_atDP,
   .f0 .andAtDP_A, .fn .andAtDP_n, .f0 .orA_atDP]

/-- Opcodes 0xC0 to 0xCF. -/
def rowsC : List Row :=
  [.f0 .orAtDP_A, .fn .orAtDP_n, .f0 .xorA_atDP, .f0 .xorAtDP_A, .fn .xorAtDP_n, .fnn .jp_nn, .fnn .jpC_nn,
   .fnn .jpOV_nn, .fnn .jpZ_nn, .fnn .jpNEG_nn, .fnn .jpPOS_nn, .fnn .jpEQ_nn, .fnn .jpLT_nn, .fnn .jpGT_nn,
   .fd .jpDPd, .fd .jr_d]

/-- Opcodes 0xD0 to 0xDF. -/
def rowsD : List Row :=
  [.fd .jrC_d, .f0 .di, .fd .jrOV_d, .fd .jrZ_d, .fd .jrNEG_d, .fd .jrPOS_d, .fd .jrEQ_d, .fd .jrLT_d, .fd .jrGT_d,
   .fd .jrNC_d, .fd .jrNOV_d, .fd .jrNZ_d, .fd .jrNNEG_d, .fd .jrNPOS_d, .fd .jrNEQ_d, .fd .jrNLT_d]

/-- Opcodes 0xE0 to 0xEF. -/
def rowsE : List Row :=
  [.fd .jrNGT_d, .f0 .ei, .fd .djnz_d, .fnn .call_nn, .fd .callr_d, .fd .callDPd, .f0 .ret, .f0 .reti,
   .fs .outAtS_A, .fs .outAtS_B, .fs .outAtS_C, .fs .outAtS_D, .fn_s .outAtS_n, .fs .outAtS_atDP,
   .fs .outiAtS_atDP, .fs .outdAtS_atDP]

/-- Opcodes 0xF0 to 0xFF. -/
def rowsF : List Row :=
  [.fs .inA_atS, .fs .inB_atS, .fs .inC_atS, .fs .inD_atS, .fs .inAtDP_atS, .fs .iniAtDP_atS, .fs .indAtDP_atS,
   .fs .incioAtS, .fs .decioAtS, .fs .andioAtS_A, .fs_n .andioAtS_n, .fs .orioAtS_A, .fs_n .orioAtS_n,
   .fs .xorioAtS_A, .fs_n .xorioAtS_n, .f0 .reset]

/-- The opcode table, row `op` at place `op` (30_encoding.md R75; spec/opcode_table.json). -/
def opcodeTable : List Row :=
  rows0 ++ rows1 ++ rows2 ++ rows3 ++ rows4 ++ rows5 ++ rows6 ++ rows7 ++ rows8 ++ rows9 ++ rowsA ++ rowsB ++ rowsC
    ++ rowsD ++ rowsE ++ rowsF

/-- The row of an opcode. -/
def rowOf (opcode : Byte) : Option Row := opcodeTable[opcode.toNat]?

/-- How many operand bytes follow the opcode (30_encoding.md R71, R74). -/
def operandCount (opcode : Byte) : Nat :=
  match rowOf opcode with
  | some row => row.format.length - 1
  | none => 0

/-- The instruction at the front of a byte string and the bytes after it (30_encoding.md R70 to R75). -/
def decode : List Byte → Except DecodeError (Instr × List Byte)
  | [] => .error .empty
  | opcode :: rest =>
    match rowOf opcode with
    | none => .error (.undefined opcode)
    | some row =>
      match row.read rest with
      | none => .error (.truncated opcode)
      | some r => .ok r

/-- The five bytes of the low `nbits` bits of `w`, the first byte in bits 7:0, every further bit zero; the longest
instruction has five bytes (30_encoding.md R70). -/
def wordBytes (nbits w : Nat) : List Byte :=
  let m := w % 2 ^ nbits
  [BitVec.ofNat 8 m, BitVec.ofNat 8 (m >>> 8), BitVec.ofNat 8 (m >>> 16), BitVec.ofNat 8 (m >>> 24),
    BitVec.ofNat 8 (m >>> 32)]

/-- The instruction the decoder reads from the bits `w` of an opcode-table row. -/
def decodeTableWord (nbits w : Nat) : Option Instr :=
  match decode (wordBytes nbits w) with
  | .ok (i, _) => some i
  | .error _ => none

/-- The bytes of an instruction: the opcode, then the operand bytes (30_encoding.md R72, R74, R75). -/
def encode : Instr → List Byte
  | .nop => [0x00]
  | .ldA_B => [0x01]
  | .ldA_C => [0x02]
  | .ldA_D => [0x03]
  | .ldB_A => [0x04]
  | .ldB_C => [0x05]
  | .ldB_D => [0x06]
  | .ldC_A => [0x07]
  | .ldC_B => [0x08]
  | .ldC_D => [0x09]
  | .ldD_A => [0x0A]
  | .ldD_B => [0x0B]
  | .ldD_C => [0x0C]
  | .ldA_n n => [0x0D, n]
  | .ldB_n n => [0x0E, n]
  | .ldC_n n => [0x0F, n]
  | .ldD_n n => [0x10, n]
  | .ldA_atDP => [0x11]
  | .ldB_atDP => [0x12]
  | .ldC_atDP => [0x13]
  | .ldD_atDP => [0x14]
  | .ldA_atDPd d => [0x15, d]
  | .ldB_atDPd d => [0x16, d]
  | .ldA_atDPDd d => [0x17, d]
  | .ldA_atSPDd d => [0x18, d]
  | .ldB_atSPd d => [0x19, d]
  | .ldC_atSPd d => [0x1A, d]
  | .ldD_atSPd d => [0x1B, d]
  | .ldA_atNN nn => [0x1C, lo8 nn, hi8 nn]
  | .ldB_atNN nn => [0x1D, lo8 nn, hi8 nn]
  | .ldC_atNN nn => [0x1E, lo8 nn, hi8 nn]
  | .ldD_atNN nn => [0x1F, lo8 nn, hi8 nn]
  | .ldAtDP_A => [0x20]
  | .ldAtDP_B => [0x21]
  | .ldAtDP_C => [0x22]
  | .ldAtDP_D => [0x23]
  | .ldAtDPd_A d => [0x24, d]
  | .ldAtDPd_B d => [0x25, d]
  | .ldAtDPDd_A d => [0x26, d]
  | .ldAtSPDd_A d => [0x27, d]
  | .ldAtSPd_B d => [0x28, d]
  | .ldAtSPd_C d => [0x29, d]
  | .ldAtSPd_D d => [0x2A, d]
  | .ldAtNN_A nn => [0x2B, lo8 nn, hi8 nn]
  | .ldAtNN_B nn => [0x2C, lo8 nn, hi8 nn]
  | .ldAtNN_C nn => [0x2D, lo8 nn, hi8 nn]
  | .ldAtNN_D nn => [0x2E, lo8 nn, hi8 nn]
  | .ldAtNN_n n nn => [0x2F, n, lo8 nn, hi8 nn]
  | .ldAtDD_atSS ss dd => [0x30, lo8 ss, hi8 ss, lo8 dd, hi8 dd]
  | .ldA_atCD => [0x31]
  | .ldAtCD_A => [0x32]
  | .ldCD_atDP => [0x33]
  | .ldAtDP_CD => [0x34]
  | .ldDP_AB => [0x35]
  | .ldDP_nn nn => [0x36, lo8 nn, hi8 nn]
  | .ldSP_nn nn => [0x37, lo8 nn, hi8 nn]
  | .ldDP_SPd d => [0x38, d]
  | .exAB_CD => [0x39]
  | .exCD_DP => [0x3A]
  | .exDP_atNN nn => [0x3B, lo8 nn, hi8 nn]
  | .pushA => [0x3C]
  | .pushB => [0x3D]
  | .pushF => [0x3E]
  | .pushCD => [0x3F]
  | .pushDP => [0x40]
  | .pushALL => [0x41]
  | .push_n n => [0x42, n]
  | .pushAtNN nn => [0x43, lo8 nn, hi8 nn]
  | .popA => [0x44]
  | .popB => [0x45]
  | .popF => [0x46]
  | .popCD => [0x47]
  | .popDP => [0x48]
  | .popALL => [0x49]
  | .popAtNN nn => [0x4A, lo8 nn, hi8 nn]
  | .addA_B => [0x4B]
  | .addA_C => [0x4C]
  | .addA_D => [0x4D]
  | .addA_n n => [0x4E, n]
  | .addB_n n => [0x4F, n]
  | .addC_n n => [0x50, n]
  | .addD_n n => [0x51, n]
  | .addcA_A => [0x52]
  | .addcA_B => [0x53]
  | .addcA_C => [0x54]
  | .addcA_D => [0x55]
  | .addcA_n n => [0x56, n]
  | .addcB_n n => [0x57, n]
  | .addcC_n n => [0x58, n]
  | .addcD_n n => [0x59, n]
  | .subA_B => [0x5A]
  | .subA_C => [0x5B]
  | .subA_D => [0x5C]
  | .subA_n n => [0x5D, n]
  | .subB_n n => [0x5E, n]
  | .subC_n n => [0x5F, n]
  | .subD_n n => [0x60, n]
  | .subbA_B => [0x61]
  | .subbA_C => [0x62]
  | .subbA_D => [0x63]
  | .subbA_n n => [0x64, n]
  | .subbB_n n => [0x65, n]
  | .subbC_n n => [0x66, n]
  | .subbD_n n => [0x67, n]
  | .addA_atDP => [0x68]
  | .addcA_atDP => [0x69]
  | .subA_atDP => [0x6A]
  | .subbA_atDP => [0x6B]
  | .addAtDP_A => [0x6C]
  | .addcAtDP_A => [0x6D]
  | .subAtDP_A => [0x6E]
  | .subbAtDP_A => [0x6F]
  | .incA => [0x70]
  | .decA => [0x71]
  | .incAtDP => [0x72]
  | .decAtDP => [0x73]
  | .incAtNN nn => [0x74, lo8 nn, hi8 nn]
  | .decAtNN nn => [0x75, lo8 nn, hi8 nn]
  | .clrA => [0x76]
  | .cplA => [0x77]
  | .andA_B => [0x78]
  | .andA_C => [0x79]
  | .andA_D => [0x7A]
  | .andA_n n => [0x7B, n]
  | .andB_n n => [0x7C, n]
  | .andC_n n => [0x7D, n]
  | .andD_n n => [0x7E, n]
  | .orA_B => [0x7F]
  | .orA_C => [0x80]
  | .orA_D => [0x81]
  | .orA_n n => [0x82, n]
  | .orB_n n => [0x83, n]
  | .orC_n n => [0x84, n]
  | .orD_n n => [0x85, n]
  | .xorA_B => [0x86]
  | .xorA_C => [0x87]
  | .xorA_D => [0x88]
  | .xorA_n n => [0x89, n]
  | .xorB_n n => [0x8A, n]
  | .xorC_n n => [0x8B, n]
  | .xorD_n n => [0x8C, n]
  | .cpA_C => [0x8D]
  | .cpA_D => [0x8E]
  | .mulAB => [0x8F]
  | .mulA_n n => [0x90, n]
  | .mulAtDP_AB => [0x91]
  | .mulCD_AB => [0x92]
  | .mul16AB_C => [0x93]
  | .divA_B => [0x94]
  | .divA_n n => [0x95, n]
  | .divAtDP_AB => [0x96]
  | .divCD_AB => [0x97]
  | .divnrA_B => [0x98]
  | .extA => [0x99]
  | .extdirA_oper oper => [0x9A, oper]
  | .extAtDP_A => [0x9B]
  | .extCD_A => [0x9C]
  | .extdirlA_oper oper => [0x9D, oper]
  | .incDP => [0x9E]
  | .decDP => [0x9F]
  | .addDP_A => [0xA0]
  | .addDP_d d => [0xA1, d]
  | .addCD_AB => [0xA2]
  | .subCD_AB => [0xA3]
  | .addSP_A => [0xA4]
  | .addSP_d d => [0xA5, d]
  | .cpA_B => [0xA6]
  | .cpA_n n => [0xA7, n]
  | .cpB_n n => [0xA8, n]
  | .cpC_n n => [0xA9, n]
  | .cpD_n n => [0xAA, n]
  | .cpA_atDP => [0xAB]
  | .cpAtDP_n n => [0xAC, n]
  | .testA_n n => [0xAD, n]
  | .ldC_atDPd d => [0xAE, d]
  | .ldD_atDPd d => [0xAF, d]
  | .ldAtDPd_C d => [0xB0, d]
  | .ldAtDPd_D d => [0xB1, d]
  | .ldA_atSPd d => [0xB2, d]
  | .ldAtSPd_A d => [0xB3, d]
  | .ldCD_SP => [0xB4]
  | .ldDP_CDd d => [0xB5, d]
  | .addCD_nn nn => [0xB6, lo8 nn, hi8 nn]
  | .subCD_nn nn => [0xB7, lo8 nn, hi8 nn]
  | .addAtDP_n n => [0xB8, n]
  | .addcAtDP_n n => [0xB9, n]
  | .subAtDP_n n => [0xBA, n]
  | .subbAtDP_n n => [0xBB, n]
  | .andA_atDP => [0xBC]
  | .andAtDP_A => [0xBD]
  | .andAtDP_n n => [0xBE, n]
  | .orA_atDP => [0xBF]
  | .orAtDP_A => [0xC0]
  | .orAtDP_n n => [0xC1, n]
  | .xorA_atDP => [0xC2]
  | .xorAtDP_A => [0xC3]
  | .xorAtDP_n n => [0xC4, n]
  | .jp_nn nn => [0xC5, lo8 nn, hi8 nn]
  | .jpC_nn nn => [0xC6, lo8 nn, hi8 nn]
  | .jpOV_nn nn => [0xC7, lo8 nn, hi8 nn]
  | .jpZ_nn nn => [0xC8, lo8 nn, hi8 nn]
  | .jpNEG_nn nn => [0xC9, lo8 nn, hi8 nn]
  | .jpPOS_nn nn => [0xCA, lo8 nn, hi8 nn]
  | .jpEQ_nn nn => [0xCB, lo8 nn, hi8 nn]
  | .jpLT_nn nn => [0xCC, lo8 nn, hi8 nn]
  | .jpGT_nn nn => [0xCD, lo8 nn, hi8 nn]
  | .jpDPd d => [0xCE, d]
  | .jr_d d => [0xCF, d]
  | .jrC_d d => [0xD0, d]
  | .di => [0xD1]
  | .jrOV_d d => [0xD2, d]
  | .jrZ_d d => [0xD3, d]
  | .jrNEG_d d => [0xD4, d]
  | .jrPOS_d d => [0xD5, d]
  | .jrEQ_d d => [0xD6, d]
  | .jrLT_d d => [0xD7, d]
  | .jrGT_d d => [0xD8, d]
  | .jrNC_d d => [0xD9, d]
  | .jrNOV_d d => [0xDA, d]
  | .jrNZ_d d => [0xDB, d]
  | .jrNNEG_d d => [0xDC, d]
  | .jrNPOS_d d => [0xDD, d]
  | .jrNEQ_d d => [0xDE, d]
  | .jrNLT_d d => [0xDF, d]
  | .jrNGT_d d => [0xE0, d]
  | .ei => [0xE1]
  | .djnz_d d => [0xE2, d]
  | .call_nn nn => [0xE3, lo8 nn, hi8 nn]
  | .callr_d d => [0xE4, d]
  | .callDPd d => [0xE5, d]
  | .ret => [0xE6]
  | .reti => [0xE7]
  | .outAtS_A sel => [0xE8, sel]
  | .outAtS_B sel => [0xE9, sel]
  | .outAtS_C sel => [0xEA, sel]
  | .outAtS_D sel => [0xEB, sel]
  | .outAtS_n n sel => [0xEC, n, sel]
  | .outAtS_atDP sel => [0xED, sel]
  | .outiAtS_atDP sel => [0xEE, sel]
  | .outdAtS_atDP sel => [0xEF, sel]
  | .inA_atS sel => [0xF0, sel]
  | .inB_atS sel => [0xF1, sel]
  | .inC_atS sel => [0xF2, sel]
  | .inD_atS sel => [0xF3, sel]
  | .inAtDP_atS sel => [0xF4, sel]
  | .iniAtDP_atS sel => [0xF5, sel]
  | .indAtDP_atS sel => [0xF6, sel]
  | .incioAtS sel => [0xF7, sel]
  | .decioAtS sel => [0xF8, sel]
  | .andioAtS_A sel => [0xF9, sel]
  | .andioAtS_n sel n => [0xFA, sel, n]
  | .orioAtS_A sel => [0xFB, sel]
  | .orioAtS_n sel n => [0xFC, sel, n]
  | .xorioAtS_A sel => [0xFD, sel]
  | .xorioAtS_n sel n => [0xFE, sel, n]
  | .reset => [0xFF]

end Sys2Proof
end

