-- ==== Sys2Proof/Machine/State.lean ====
section
/-! DEFINITION. The state of the machine as plain data (10_state.md), the environment's part of it, and the reset
state. -/

namespace Sys2Proof.Machine

open Sys2Proof.Config (BusAccess)

/-- Why the machine stops with a fault: never. The CPU has no fault mechanism and no state in which it stops
(60_exceptions.md R450, 93_implementation_defined.md section 1), so the type has no constructor. -/
inductive Fault where
  deriving DecidableEq, Repr

/-- Why a step has no meaning in the model. -/
inductive Refusal where
  /-- Raised by an arm of `exec` whose instruction has no meaning yet; no arm uses it. Safe: the model stops where the
  hardware goes on. -/
  | notModelled (mnemonic : String)
  /-- Raised by `step` if the bytes it fetched are no instruction; no step reaches it, since the opcode fixes the
  length and every opcode is defined (30_encoding.md R70, R75; log 42). Safe: the model would stop. -/
  | undecodable (reason : DecodeError)
  deriving DecidableEq, Repr

/-- The four working registers (10_state.md R20). -/
inductive Reg where
  | A | B | C | D
  deriving DecidableEq, Repr

/-- What is behind an address (`MEM_MAP`, 20_memory.md R53). -/
inductive RegionKind where
  | ram
  | rom
  | device
  | unmapped
  deriving DecidableEq, Repr

/-- A closed range of addresses and what is behind it. -/
structure Region where
  first : Word
  last : Word
  kind : RegionKind
  deriving DecidableEq, Repr

/-- What the environment presents at one instruction boundary (`INT_SOURCE`, 60_exceptions.md R452; `EXT_RESET`,
70_reset_and_hazards.md R482). -/
inductive Input where
  /-- INT is 0 and no reset. -/
  | quiet
  /-- INT is 1; the controller answers the second INTA with this pointer byte. -/
  | interrupt (pointer : Byte)
  /-- Power-on or the reset button. -/
  | reset
  deriving DecidableEq, Repr

/-- The 64 KiB of memory (20_memory.md R50): the bytes written, as (address, byte) pairs with rising addresses. An
address that is not listed has no value here; the machine reads `Config.memInit` there (log 19, log 43). -/
structure Memory where
  cells : List Host.Cell
  deriving DecidableEq, Repr

/-- The canonical form: addresses strictly rising, all below 65536. -/
def cellsWellFormed : List Host.Cell → Bool
  | [] => true
  | [x] => decide (x.1 < 65536)
  | x :: y :: rest => decide (x.1 < y.1) && cellsWellFormed (y :: rest)

/-- The canonical form of a memory (log 43). -/
def Memory.wf (m : Memory) : Bool := cellsWellFormed m.cells

/-- The state: the registers and hidden bits of 10_state.md, memory, and the named parameters of 00_scope.md R7 that
are plain data. -/
structure State where
  /-- A, the accumulator (R20). -/
  a : Byte
  /-- B (R20). -/
  b : Byte
  /-- C (R20). -/
  c : Byte
  /-- D (R20). -/
  d : Byte
  /-- F, the flags (R23, R30). -/
  f : Byte
  /-- PC (R24). -/
  pc : Word
  /-- SP (R28). -/
  sp : Word
  /-- DP (R29). -/
  dp : Word
  /-- IE, the interrupt enable (R34). -/
  ie : Bool
  /-- NOSAMPLE, the one-instruction sampling inhibit of RETI (R35). -/
  noSample : Bool
  /-- Memory (R39). -/
  mem : Memory
  /-- `MEM_MAP`: the first region that holds an address says what is behind it; RAM where none does (log 20). -/
  memMap : List Region
  /-- The recorded accesses to what is not plain memory, latest first (log 23). -/
  busLog : List BusAccess
  /-- What the environment presents at the coming boundaries (log 28, log 33). -/
  inputs : List Input
  /-- The cycle counter of 70_reset_and_hazards.md R490 (log 31). -/
  cycles : Nat
  deriving DecidableEq, Repr

/-- The state after power-on reset (10_state.md R41, 70_reset_and_hazards.md R480). -/
def State.reset : State where
  a := 0x00
  b := 0x00
  c := 0x00
  d := 0x00
  f := 0x24
  pc := 0x0000
  sp := 0xFFFF
  dp := 0x8080
  ie := false
  noSample := false
  mem := ⟨[]⟩
  memMap := []
  busLog := []
  inputs := []
  cycles := 0

end Sys2Proof.Machine
end

