-- ==== Sys2Proof/Machine/Flags.lean ====
section
/-! DEFINITION. The flags of F and the 8-bit ALU that computes all eight of them (10_state.md R30, R31;
42_alu8.md R360 to R367). -/

namespace Sys2Proof.Machine

/-- The eight flags (10_state.md R23). -/
inductive Flag where
  | C | OV | Z | NEG | POS | EQ | LT | GT
  deriving DecidableEq, Repr

/-- The bit of F that holds a flag (10_state.md R30, decision D1: log 1). -/
def Flag.bit : Flag → Nat
  | .C => 0
  | .OV => 1
  | .Z => 2
  | .NEG => 3
  | .POS => 4
  | .EQ => 5
  | .LT => 6
  | .GT => 7

/-- `f.X` for a flag byte `f` (00_scope.md R11). -/
def flagOf (f : Byte) (x : Flag) : Bool := f.getLsbD x.bit

/-- `F.X` (00_scope.md R11). -/
def State.flag (s : State) (x : Flag) : Bool := flagOf s.f x

/-- The ALU operations (42_alu8.md R360). -/
inductive AluOp where
  | ADD | SUB | AND | OR | XOR
  deriving DecidableEq, Repr

/-- `arg2 = x + cin`, an integer 0 to 256 (42_alu8.md R363, decision D6: log 5). -/
def aluArg2 (x : Byte) (cin : Bool) : Nat := x.toNat + cin.toNat

/-- The 8-bit result (42_alu8.md R361). -/
def aluResult (op : AluOp) (arg1 x : Byte) (cin : Bool) : Byte :=
  match op with
  | .ADD => BitVec.ofNat 8 (arg1.toNat + aluArg2 x cin)
  | .SUB => BitVec.ofInt 8 ((arg1.toNat : Int) - (aluArg2 x cin : Int))
  | .AND => arg1 &&& x
  | .OR => arg1 ||| x
  | .XOR => arg1 ^^^ x

/-- C: a sum above 255, or a borrow (42_alu8.md R362, decision D2: log 2); 0 for the logic operations (R367, decision
D7: log 6). -/
def aluCarry (op : AluOp) (arg1 x : Byte) (cin : Bool) : Bool :=
  match op with
  | .ADD => decide (255 < arg1.toNat + aluArg2 x cin)
  | .SUB => decide (arg1.toNat < aluArg2 x cin)
  | .AND | .OR | .XOR => false

/-- The true signed result, the carry-in included (42_alu8.md R364, decision D5: log 4). -/
def aluSigned (op : AluOp) (arg1 x : Byte) (cin : Bool) : Int :=
  match op with
  | .ADD => arg1.toInt + x.toInt + (cin.toNat : Int)
  | .SUB => arg1.toInt - x.toInt - (cin.toNat : Int)
  | .AND | .OR | .XOR => 0

/-- OV: the true signed result is outside -128 to 127 (42_alu8.md R364); 0 for the logic operations (R367). -/
def aluOverflow (op : AluOp) (arg1 x : Byte) (cin : Bool) : Bool :=
  decide (aluSigned op arg1 x cin < -128) || decide (127 < aluSigned op arg1 x cin)

/-- F with the eight flags in their bits (42_alu8.md R360, last line). -/
def packFlags (c ov z neg pos eq lt gt : Bool) : Byte :=
  BitVec.ofNat 8 (c.toNat + 2 * ov.toNat + 4 * z.toNat + 8 * neg.toNat + 16 * pos.toNat + 32 * eq.toNat
    + 64 * lt.toNat + 128 * gt.toNat)

/-- The flag byte of an ALU operation: C and OV as above, Z, NEG, POS from the 8-bit result (42_alu8.md R365, decisions
D3, D4: log 3), EQ, LT, GT from the unsigned inputs (R366). -/
def aluFlags (op : AluOp) (arg1 x : Byte) (cin : Bool) : Byte :=
  let r := aluResult op arg1 x cin
  let arg2 := aluArg2 x cin
  packFlags (aluCarry op arg1 x cin) (aluOverflow op arg1 x cin) (r == 0) r.msb (!(r == 0) && !r.msb)
    (decide (arg1.toNat = arg2)) (decide (arg1.toNat < arg2)) (decide (arg2 < arg1.toNat))

/-- `ALU(op, arg1, x, cin)` (42_alu8.md R360): the result and the flag byte. -/
def alu (op : AluOp) (arg1 x : Byte) (cin : Bool) : Byte × Byte :=
  (aluResult op arg1 x cin, aluFlags op arg1 x cin)

end Sys2Proof.Machine
end

