-- ==== Sys2Proof/Machine/Ops.lean ====
section
/-! DEFINITION. The named operations over registers and memory: reading and writing registers, the bus accesses of
20_memory.md R54 and R55, the stack steps of 41_stack.md, the interrupt response of 60_exceptions.md R453 and the return
from it, and the reset sequence of 70_reset_and_hazards.md R480. -/

namespace Sys2Proof.Machine

open Sys2Proof.Config (BusAccess)

/-- What an executed instruction, or a step, answers. -/
abbrev Result := Host.Outcome State Fault Refusal

/-! ### Registers -/

/-- `x[r]` (10_state.md R20). -/
def State.reg (s : State) : Reg → Byte
  | .A => s.a
  | .B => s.b
  | .C => s.c
  | .D => s.d

/-- `x[r] <- v` (10_state.md R20). -/
def State.setReg (s : State) (r : Reg) (v : Byte) : State :=
  match r with
  | .A => { s with a := v }
  | .B => { s with b := v }
  | .C => { s with c := v }
  | .D => { s with d := v }

/-- `F <- v`, all eight bits (10_state.md R32). -/
def State.setF (s : State) (v : Byte) : State := { s with f := v }

/-- `pc <- target` (00_scope.md R11). -/
def State.setPc (s : State) (v : Word) : State := { s with pc := v }

/-- `SP <- v` (10_state.md R28). -/
def State.setSp (s : State) (v : Word) : State := { s with sp := v }

/-- `DP <- v` (10_state.md R29). -/
def State.setDp (s : State) (v : Word) : State := { s with dp := v }

/-- `IE <- v` (10_state.md R34). -/
def State.setIe (s : State) (v : Bool) : State := { s with ie := v }

/-- `NOSAMPLE <- v` (10_state.md R35). -/
def State.setNoSample (s : State) (v : Bool) : State := { s with noSample := v }

/-- The pair AB, A the low byte (10_state.md R21). -/
def State.ab (s : State) : Word := join16 s.b s.a

/-- The pair CD, C the low byte (10_state.md R21). -/
def State.cd (s : State) : Word := join16 s.d s.c

/-- Writing the pair AB writes both registers (00_scope.md R10). -/
def State.setAB (s : State) (v : Word) : State := (s.setReg .A (lo8 v)).setReg .B (hi8 v)

/-- Writing the pair CD writes both registers (00_scope.md R10). -/
def State.setCD (s : State) (v : Word) : State := (s.setReg .C (lo8 v)).setReg .D (hi8 v)

/-! ### Memory cells -/

/-- The byte listed for an address, if one is. -/
def cellAt : List Host.Cell → Nat → Option Byte
  | [], _ => none
  | (b, w) :: rest, a => if b = a then some w else cellAt rest a

/-- The cells with the byte of one address replaced, in rising order. -/
def putCell : List Host.Cell → Nat → Byte → List Host.Cell
  | [], a, v => [(a, v)]
  | (b, w) :: rest, a, v =>
    if a < b then (a, v) :: (b, w) :: rest
    else if a = b then (a, v) :: rest
    else (b, w) :: putCell rest a v

/-- The byte a memory lists for an address, if it lists one (log 43). -/
def Memory.read? (m : Memory) (a : Word) : Option Byte := cellAt m.cells a.toNat

/-- The memory with one byte written; the canonical form is kept. -/
def Memory.write (m : Memory) (a : Word) (v : Byte) : Memory := ⟨putCell m.cells a.toNat v⟩

/-! ### Bus accesses -/

/-- Whether an address lies in a region. -/
def Region.covers (r : Region) (a : Word) : Bool := decide (r.first ≤ a) && decide (a ≤ r.last)

/-- What a map says is behind an address: the first region that holds it; RAM where none does (20_memory.md R53;
log 20). -/
def kindIn (memMap : List Region) (a : Word) : RegionKind :=
  match memMap.find? (fun r => r.covers a) with
  | some r => r.kind
  | none => .ram

/-- What is behind an address (20_memory.md R53). -/
def State.kindAt (s : State) (a : Word) : RegionKind := kindIn s.memMap a

/-- The byte the memory chips hold at an address: the last one written, else the one of power-on (20_memory.md R52,
R54). -/
def State.stored (s : State) (a : Word) : Byte := (s.mem.read? a).getD (Config.memInit a)

/-- Recording an access that reaches something other than plain memory (20_memory.md R57). -/
def State.record (s : State) (x : BusAccess) : State := { s with busLog := x :: s.busLog }

/-- `MemRead(addr, 1)`: RAM and ROM return the stored byte and change nothing; a device, and an unmapped address,
delivers a byte of the environment and the access is recorded (20_memory.md R54, R57). -/
def State.memRead (s : State) (addr : Word) : Byte × State :=
  match s.kindAt addr with
  | .ram | .rom => (s.stored addr, s)
  | .device => (Config.ioDevice s.busLog addr, s.record ⟨.read, addr, Config.ioDevice s.busLog addr⟩)
  | .unmapped => (Config.unmappedRead s.busLog addr, s.record ⟨.read, addr, Config.unmappedRead s.busLog addr⟩)

/-- Storing a byte in the memory chips. -/
def State.store (s : State) (addr : Word) (v : Byte) : State := { s with mem := s.mem.write addr v }

/-- `MemWrite(addr, 1, v)`: RAM then holds `v`; a ROM location then holds what the platform makes of the write; the
write to a ROM, a device or an unmapped address is recorded (20_memory.md R53, R55, R57). -/
def State.memWrite (s : State) (addr : Word) (v : Byte) : State :=
  match s.kindAt addr with
  | .ram => s.store addr v
  | .rom => (s.store addr (Config.romWrite s.busLog addr (s.stored addr) v)).record ⟨.write, addr, v⟩
  | .device | .unmapped => s.record ⟨.write, addr, v⟩

/-- One read, then the rest of the operation with the byte and the state after the read. -/
def State.readThen (s : State) (addr : Word) (k : Byte → State → State) : State :=
  k (s.memRead addr).1 (s.memRead addr).2

/-- A two-byte write, low byte at the address, high byte at the next address, low byte first (20_memory.md R60, R62;
40_load_exchange.md R503, decision D24: log 25). -/
def State.memWrite16 (s : State) (addr : Word) (v : Word) : State :=
  (s.memWrite addr (lo8 v)).memWrite (nextAddress addr) (hi8 v)

/-- A two-byte read, low byte first (20_memory.md R60, R62; 40_load_exchange.md R503, decision D24: log 25). -/
def State.read16Then (s : State) (addr : Word) (k : Word → State → State) : State :=
  s.readThen addr fun lo t => t.readThen (nextAddress addr) fun hi u => k (join16 hi lo) u

/-! ### The stack -/

/-- `push8(v)`: SP steps down inside its page, then the byte is written at the new SP (41_stack.md R356, decision D8:
log 7). -/
def State.push8 (s : State) (v : Byte) : State :=
  (s.setSp (padd s.sp 0xFFFF)).memWrite (padd s.sp 0xFFFF) v

/-- `pop8()`, then the rest of the operation with the popped byte: the byte at SP is read, then SP steps up inside its
page (41_stack.md R357, decision D8: log 7). -/
def State.popThen (s : State) (k : Byte → State → State) : State :=
  s.readThen s.sp fun v t => k v (t.setSp (padd t.sp 1))

/-- A 16-bit push, high byte first (41_stack.md R358). -/
def State.push16 (s : State) (v : Word) : State := (s.push8 (hi8 v)).push8 (lo8 v)

/-- A 16-bit pop, low byte first (41_stack.md R358). -/
def State.pop16Then (s : State) (k : Word → State → State) : State :=
  s.popThen fun lo t => t.popThen fun hi u => k (join16 hi lo) u

/-! ### The interrupt and the return from it -/

/-- The address of the vector of a pointer byte: twice the pointer (60_exceptions.md R456); for a pointer above 127 the
parameter `INT_PTR_HIGH` (R457; log 34). -/
def vectorAddress (p : Byte) : Word :=
  if p.toNat < 128 then BitVec.ofNat 16 (2 * p.toNat) else Config.vectorHigh p

/-- The interrupt response (60_exceptions.md R453): PC is pushed, high byte first (decision D26: log 27), PC is loaded
from the vector of the pointer, low byte first, and IE is cleared. F and every other register stay (R454, R455). -/
def interruptResponse (pointer : Byte) (s : State) : State :=
  (s.push16 s.pc).readThen (vectorAddress pointer) fun lo t =>
    t.readThen (vectorAddress pointer + 1) fun hi u => (u.setPc (join16 hi lo)).setIe false

/-- `RET`: PC is popped, low byte first (46_control.md R515). -/
def returnOp (s : State) : State := s.pop16Then fun v t => t.setPc v

/-- `RETI`: the return from the interrupt (46_control.md R515; 60_exceptions.md R459): PC is popped, IE and NOSAMPLE are
set; nothing else is restored. -/
def returnFromInterrupt (s : State) : State := ((returnOp s).setIe true).setNoSample true

/-! ### Reset -/

/-- `reset()` (70_reset_and_hazards.md R480): every register and hidden bit takes its reset value; memory, devices and
the environment are not touched. -/
def resetOp (s : State) : State :=
  { State.reset with
    mem := s.mem, memMap := s.memMap, busLog := s.busLog, inputs := s.inputs, cycles := s.cycles }

end Sys2Proof.Machine
end

