-- ==== Sys2Proof/Machine/Timing.lean ====
section
/-! DEFINITION. The Clocks column: a constant per opcode, for the cycle counter (70_reset_and_hazards.md R490, R491,
decision D31: log 31). -/

namespace Sys2Proof.Machine

/-- The grid of 70_reset_and_hazards.md R490, one list per high nibble of the opcode. -/
def clockGrid : List (List Nat) := [
  [2, 4, 4, 4, 4, 4, 4, 4, 4, 4, 4, 4, 4, 3, 3, 3],
  [3, 4, 4, 4, 4, 7, 7, 8, 8, 7, 7, 7, 5, 5, 5, 5],
  [4, 4, 4, 4, 8, 8, 9, 9, 8, 7, 7, 6, 6, 5, 5, 9],
  [10, 6, 6, 5, 6, 6, 4, 4, 3, 8, 7, 11, 4, 4, 4, 6],
  [7, 17, 6, 8, 4, 4, 4, 5, 5, 10, 8, 4, 7, 7, 7, 9],
  [10, 10, 10, 7, 9, 9, 9, 11, 10, 10, 5, 7, 7, 7, 9, 10],
  [10, 7, 9, 10, 9, 11, 10, 10, 7, 9, 7, 9, 10, 10, 10, 10],
  [7, 7, 10, 10, 12, 12, 4, 7, 5, 7, 7, 7, 9, 10, 10, 5],
  [7, 7, 7, 9, 10, 10, 5, 7, 7, 7, 9, 10, 10, 6, 6, 7],
  [7, 5, 5, 21, 7, 7, 5, 5, 4, 7, 7, 5, 5, 6, 3, 3],
  [4, 3, 13, 13, 4, 3, 4, 6, 9, 9, 9, 6, 9, 6, 7, 7],
  [7, 7, 7, 8, 5, 7, 14, 14, 10, 10, 10, 10, 7, 10, 10, 7],
  [10, 10, 7, 10, 10, 4, 4, 4, 4, 4, 4, 4, 4, 4, 3, 3],
  [3, 4, 3, 3, 3, 3, 3, 3, 3, 3, 3, 3, 3, 3, 3, 3],
  [3, 4, 10, 9, 8, 9, 5, 5, 8, 8, 8, 8, 11, 12, 12, 12],
  [7, 7, 7, 7, 9, 10, 10, 13, 13, 11, 14, 11, 14, 11, 14, 19]]

/-- `clocks(opcode)` (70_reset_and_hazards.md R490). -/
def clocksOf (opcode : Byte) : Nat := (clockGrid.getD (opcode.toNat / 16) []).getD (opcode.toNat % 16) 0

/-- The duration of an instruction, that of its opcode. -/
def clocks (i : Instr) : Nat := clocksOf ((encode i).headD 0)

/-- The duration of the interrupt response (60_exceptions.md R453: "The whole sequence takes 14 clock cycles."). -/
def interruptClocks : Nat := 14

end Sys2Proof.Machine
end

