-- ==== Sys2Proof/Machine/Boundary.lean ====
section
/-! DEFINITION. The instruction boundary that opens every step: the reset input, the no-sample bit and the sampling of INT
(60_exceptions.md R451; 70_reset_and_hazards.md R482). -/

namespace Sys2Proof.Machine

/-- What a boundary leads to. -/
inductive Boundary where
  /-- An event replaced the instruction; this is the state after it. -/
  | taken (s : State)
  /-- The instruction at PC is to be executed from this state. -/
  | execute (s : State)
  deriving DecidableEq, Repr

/-- What the environment presents at this boundary, nothing where the list is exhausted (log 33). -/
def State.input (s : State) : Input := s.inputs.headD .quiet

/-- The boundary is over: the environment's next entry is the first of the list. -/
def State.dropInput (s : State) : State := { s with inputs := s.inputs.tail }

/-- Clocks counted (70_reset_and_hazards.md R490). -/
def State.addCycles (s : State) (k : Nat) : State := { s with cycles := s.cycles + k }

/-- The boundary (60_exceptions.md R451): reset replaces the step and wins (R458, decision D27: log 28); else a set
NOSAMPLE is cleared and INT is not looked at (R459); else INT is served if IE is set (R453, decision D25: log 26). -/
def boundary (s : State) : Boundary :=
  match s.input with
  | .reset => .taken ((resetOp s.dropInput).addCycles Config.resetClocks)
  | .quiet => .execute (s.dropInput.setNoSample false)
  | .interrupt p =>
    if s.noSample then .execute (s.dropInput.setNoSample false)
    else if s.ie then .taken ((interruptResponse p s.dropInput).addCycles interruptClocks)
    else .execute s.dropInput

end Sys2Proof.Machine
end

