-- ==== Sys2Proof/Machine/Operands.lean ====
section
/-! DEFINITION. The memory operand shapes and the address each computes (40_load_exchange.md R502; 20_memory.md R59,
R61), the targets of relative and indirect jumps (46_control.md R510), and the moves and steps that several families
share. -/

namespace Sys2Proof.Machine

/-- `(DP)`: DP as a full address. -/
def eaDP (s : State) : Word := s.dp

/-- `(DP + d)` and the target `DP + d`: `padd(DP, sext_16(d))`. -/
def eaDPd (s : State) (d : Byte) : Word := padd s.dp (sext16 d)

/-- `(DP + D + d)`: the two signed bytes are added first (decision D10: log 9). -/
def eaDPDd (s : State) (d : Byte) : Word := padd s.dp (sext16 s.d + sext16 d)

/-- `(SP + d)` and the value `SP + d`. -/
def eaSPd (s : State) (d : Byte) : Word := padd s.sp (sext16 d)

/-- `(SP + D + d)`: the two signed bytes are added first (decision D10: log 9). -/
def eaSPDd (s : State) (d : Byte) : Word := padd s.sp (sext16 s.d + sext16 d)

/-- `(CD)`: D:C as a full address. -/
def eaCD (s : State) : Word := s.cd

/-- The value `CD + d` of `LD DP, CD + d`: CD first, then the displacement inside CD's page (40_load_exchange.md
R281). -/
def eaCDd (s : State) (d : Byte) : Word := padd s.cd (sext16 d)

/-- `PC + d`: the base is PC after the whole instruction was fetched, which is what PC holds while it executes
(46_control.md R511, decision D12: log 11). -/
def relativeTarget (s : State) (d : Byte) : Word := padd s.pc (sext16 d)

/-! ### Moves and steps that several families share -/

/-- A register loaded from memory: `r <- MemRead(ea, 1)` (40_load_exchange.md R502). -/
def loadFrom (r : Reg) (ea : Word) (s : State) : State := s.readThen ea fun v t => t.setReg r v

/-- One byte moved from one address to another, the read before the write (20_memory.md R67, decision D24: log 25). -/
def copyByte (source destination : Word) (s : State) : State :=
  s.readThen source fun v t => t.memWrite destination v

/-- A relative change of DP, inside its page (45_addr16.md R381, decision D8: log 7). -/
def stepDp (k : Word) (s : State) : State := s.setDp (padd s.dp k)

/-- A relative change of SP, inside its page (45_addr16.md R381, decision D8: log 7). -/
def stepSp (k : Word) (s : State) : State := s.setSp (padd s.sp k)

end Sys2Proof.Machine
end

