-- ==== Sys2Proof/Machine/Alu.lean ====
section
/-! DEFINITION. The shapes of the 8-bit ALU instructions (42_alu8.md R360, R368). -/

namespace Sys2Proof.Machine

/-- Register destination: `(r, f) <- ALU(op, dst, x, cin); dst <- r; F <- f`. -/
def aluReg (op : AluOp) (dst : Reg) (x : Byte) (cin : Bool) (s : State) : State :=
  (s.setReg dst (alu op (s.reg dst) x cin).1).setF (alu op (s.reg dst) x cin).2

/-- Register destination, memory source: `m <- MemRead(ea, 1)`, then as `aluReg` with `x = m`. -/
def aluRegMem (op : AluOp) (dst : Reg) (ea : Word) (cin : Bool) (s : State) : State :=
  s.readThen ea fun m t => aluReg op dst m cin t

/-- Memory destination: one read, one write of the result to the same address, F the flags. -/
def updateMem (ea : Word) (k : Byte → Byte × Byte) (s : State) : State :=
  s.readThen ea fun m t => (t.memWrite ea (k m).1).setF (k m).2

end Sys2Proof.Machine
end

