-- ==== Sys2Proof/Machine/Addr16.lean ====
section
/-! DEFINITION. 16-bit arithmetic on DP, SP and CD (45_addr16.md). DP and SP step inside their page and leave F (R381, R382);
the CD forms are two chained 8-bit ALU operations (R380). -/

namespace Sys2Proof.Machine

/-- The CD forms: the low bytes without a carry-in, the high bytes with the carry of the low ones; F is that of the high
stage (45_addr16.md R380, R384). -/
def aluPair (op : AluOp) (lo hi : Byte) (s : State) : State :=
  let low := alu op s.c lo false
  let high := alu op s.d hi (flagOf low.2 .C)
  ((s.setReg .C low.1).setReg .D high.1).setF high.2

/-- 0x9E `INC DP` (R258): `DP <- padd(DP, 1)`. -/
def execIncDP (s : State) : Result := .next (stepDp 1 s)

/-- 0x9F `DEC DP` (R259): `DP <- padd(DP, -1)`. -/
def execDecDP (s : State) : Result := .next (stepDp 0xFFFF s)

/-- 0xA0 `ADD DP, A` (R260): `DP <- padd(DP, sext_16(A))`. -/
def execAddDP_A (s : State) : Result := .next (stepDp (sext16 s.a) s)

/-- 0xA1 `ADD DP, d` (R261): `d <- fetch8(); DP <- padd(DP, sext_16(d))`. -/
def execAddDP_d (d : Byte) (s : State) : Result := .next (stepDp (sext16 d) s)

/-- 0xA2 `ADD CD, AB` (R262): `(rl, fl) <- ALU(ADD, C, A, 0); (rh, fh) <- ALU(ADD, D, B, fl.C); C <- rl; D <- rh; F <-
fh`. -/
def execAddCD_AB (s : State) : Result := .next (aluPair .ADD s.a s.b s)

/-- 0xA3 `SUB CD, AB` (R263): `(rl, fl) <- ALU(SUB, C, A, 0); (rh, fh) <- ALU(SUB, D, B, fl.C); C <- rl; D <- rh; F <-
fh`. -/
def execSubCD_AB (s : State) : Result := .next (aluPair .SUB s.a s.b s)

/-- 0xA4 `ADD SP, A` (R264): `SP <- padd(SP, sext_16(A))`. -/
def execAddSP_A (s : State) : Result := .next (stepSp (sext16 s.a) s)

/-- 0xA5 `ADD SP, d` (R265): `d <- fetch8(); SP <- padd(SP, sext_16(d))`. -/
def execAddSP_d (d : Byte) (s : State) : Result := .next (stepSp (sext16 d) s)

/-- 0xB6 `ADD CD, nn` (R282): `nn <- fetch16(); (rl, fl) <- ALU(ADD, C, nn[7:0], 0); (rh, fh) <- ALU(ADD, D, nn[15:8],
fl.C); C <- rl; D <- rh; F <- fh`. -/
def execAddCD_nn (nn : Word) (s : State) : Result := .next (aluPair .ADD (lo8 nn) (hi8 nn) s)

/-- 0xB7 `SUB CD, nn` (R283): `nn <- fetch16(); (rl, fl) <- ALU(SUB, C, nn[7:0], 0); (rh, fh) <- ALU(SUB, D, nn[15:8],
fl.C); C <- rl; D <- rh; F <- fh`. -/
def execSubCD_nn (nn : Word) (s : State) : Result := .next (aluPair .SUB (lo8 nn) (hi8 nn) s)

end Sys2Proof.Machine
end

