-- ==== Sys2Proof/Machine/Alu8.lean ====
section
/-! DEFINITION. The 8-bit arithmetic instructions on registers, `(DP)` and `(nn)`, and `CLR`, `CPL` (42_alu8.md). `CLR A` alone
leaves F (R369). -/

namespace Sys2Proof.Machine

/-- 0x4B `ADD A, B` (R175): `(r, f) <- ALU(ADD, A, B, 0); A <- r; F <- f`. -/
def execAddA_B (s : State) : Result := .next (aluReg .ADD .A s.b false s)

/-- 0x4C `ADD A, C` (R176): `(r, f) <- ALU(ADD, A, C, 0); A <- r; F <- f`. -/
def execAddA_C (s : State) : Result := .next (aluReg .ADD .A s.c false s)

/-- 0x4D `ADD A, D` (R177): `(r, f) <- ALU(ADD, A, D, 0); A <- r; F <- f`. -/
def execAddA_D (s : State) : Result := .next (aluReg .ADD .A s.d false s)

/-- 0x4E `ADD A, n` (R178): `n <- fetch8(); (r, f) <- ALU(ADD, A, n, 0); A <- r; F <- f`. -/
def execAddA_n (n : Byte) (s : State) : Result := .next (aluReg .ADD .A n false s)

/-- 0x4F `ADD B, n` (R179): `n <- fetch8(); (r, f) <- ALU(ADD, B, n, 0); B <- r; F <- f`. -/
def execAddB_n (n : Byte) (s : State) : Result := .next (aluReg .ADD .B n false s)

/-- 0x50 `ADD C, n` (R180): `n <- fetch8(); (r, f) <- ALU(ADD, C, n, 0); C <- r; F <- f`. -/
def execAddC_n (n : Byte) (s : State) : Result := .next (aluReg .ADD .C n false s)

/-- 0x51 `ADD D, n` (R181): `n <- fetch8(); (r, f) <- ALU(ADD, D, n, 0); D <- r; F <- f`. -/
def execAddD_n (n : Byte) (s : State) : Result := .next (aluReg .ADD .D n false s)

/-- 0x52 `ADDC A, A` (R182): `(r, f) <- ALU(ADD, A, A, F.C); A <- r; F <- f`. -/
def execAddcA_A (s : State) : Result := .next (aluReg .ADD .A s.a (s.flag .C) s)

/-- 0x53 `ADDC A, B` (R183): `(r, f) <- ALU(ADD, A, B, F.C); A <- r; F <- f`. -/
def execAddcA_B (s : State) : Result := .next (aluReg .ADD .A s.b (s.flag .C) s)

/-- 0x54 `ADDC A, C` (R184): `(r, f) <- ALU(ADD, A, C, F.C); A <- r; F <- f`. -/
def execAddcA_C (s : State) : Result := .next (aluReg .ADD .A s.c (s.flag .C) s)

/-- 0x55 `ADDC A, D` (R185): `(r, f) <- ALU(ADD, A, D, F.C); A <- r; F <- f`. -/
def execAddcA_D (s : State) : Result := .next (aluReg .ADD .A s.d (s.flag .C) s)

/-- 0x56 `ADDC A, n` (R186): `n <- fetch8(); (r, f) <- ALU(ADD, A, n, F.C); A <- r; F <- f`. -/
def execAddcA_n (n : Byte) (s : State) : Result := .next (aluReg .ADD .A n (s.flag .C) s)

/-- 0x57 `ADDC B, n` (R187): `n <- fetch8(); (r, f) <- ALU(ADD, B, n, F.C); B <- r; F <- f`. -/
def execAddcB_n (n : Byte) (s : State) : Result := .next (aluReg .ADD .B n (s.flag .C) s)

/-- 0x58 `ADDC C, n` (R188): `n <- fetch8(); (r, f) <- ALU(ADD, C, n, F.C); C <- r; F <- f`. -/
def execAddcC_n (n : Byte) (s : State) : Result := .next (aluReg .ADD .C n (s.flag .C) s)

/-- 0x59 `ADDC D, n` (R189): `n <- fetch8(); (r, f) <- ALU(ADD, D, n, F.C); D <- r; F <- f`. -/
def execAddcD_n (n : Byte) (s : State) : Result := .next (aluReg .ADD .D n (s.flag .C) s)

/-- 0x5A `SUB A, B` (R190): `(r, f) <- ALU(SUB, A, B, 0); A <- r; F <- f`. -/
def execSubA_B (s : State) : Result := .next (aluReg .SUB .A s.b false s)

/-- 0x5B `SUB A, C` (R191): `(r, f) <- ALU(SUB, A, C, 0); A <- r; F <- f`. -/
def execSubA_C (s : State) : Result := .next (aluReg .SUB .A s.c false s)

/-- 0x5C `SUB A, D` (R192): `(r, f) <- ALU(SUB, A, D, 0); A <- r; F <- f`. -/
def execSubA_D (s : State) : Result := .next (aluReg .SUB .A s.d false s)

/-- 0x5D `SUB A, n` (R193): `n <- fetch8(); (r, f) <- ALU(SUB, A, n, 0); A <- r; F <- f`. -/
def execSubA_n (n : Byte) (s : State) : Result := .next (aluReg .SUB .A n false s)

/-- 0x5E `SUB B, n` (R194): `n <- fetch8(); (r, f) <- ALU(SUB, B, n, 0); B <- r; F <- f`. -/
def execSubB_n (n : Byte) (s : State) : Result := .next (aluReg .SUB .B n false s)

/-- 0x5F `SUB C, n` (R195): `n <- fetch8(); (r, f) <- ALU(SUB, C, n, 0); C <- r; F <- f`. -/
def execSubC_n (n : Byte) (s : State) : Result := .next (aluReg .SUB .C n false s)

/-- 0x60 `SUB D, n` (R196): `n <- fetch8(); (r, f) <- ALU(SUB, D, n, 0); D <- r; F <- f`. -/
def execSubD_n (n : Byte) (s : State) : Result := .next (aluReg .SUB .D n false s)

/-- 0x61 `SUBB A, B` (R197): `(r, f) <- ALU(SUB, A, B, F.C); A <- r; F <- f`. -/
def execSubbA_B (s : State) : Result := .next (aluReg .SUB .A s.b (s.flag .C) s)

/-- 0x62 `SUBB A, C` (R198): `(r, f) <- ALU(SUB, A, C, F.C); A <- r; F <- f`. -/
def execSubbA_C (s : State) : Result := .next (aluReg .SUB .A s.c (s.flag .C) s)

/-- 0x63 `SUBB A, D` (R199): `(r, f) <- ALU(SUB, A, D, F.C); A <- r; F <- f`. -/
def execSubbA_D (s : State) : Result := .next (aluReg .SUB .A s.d (s.flag .C) s)

/-- 0x64 `SUBB A, n` (R200): `n <- fetch8(); (r, f) <- ALU(SUB, A, n, F.C); A <- r; F <- f`. -/
def execSubbA_n (n : Byte) (s : State) : Result := .next (aluReg .SUB .A n (s.flag .C) s)

/-- 0x65 `SUBB B, n` (R201): `n <- fetch8(); (r, f) <- ALU(SUB, B, n, F.C); B <- r; F <- f`. -/
def execSubbB_n (n : Byte) (s : State) : Result := .next (aluReg .SUB .B n (s.flag .C) s)

/-- 0x66 `SUBB C, n` (R202): `n <- fetch8(); (r, f) <- ALU(SUB, C, n, F.C); C <- r; F <- f`. -/
def execSubbC_n (n : Byte) (s : State) : Result := .next (aluReg .SUB .C n (s.flag .C) s)

/-- 0x67 `SUBB D, n` (R203): `n <- fetch8(); (r, f) <- ALU(SUB, D, n, F.C); D <- r; F <- f`. -/
def execSubbD_n (n : Byte) (s : State) : Result := .next (aluReg .SUB .D n (s.flag .C) s)

/-- 0x68 `ADD A, (DP)` (R204): `m <- MemRead(DP, 1); (r, f) <- ALU(ADD, A, m, 0); A <- r; F <- f`. -/
def execAddA_atDP (s : State) : Result := .next (aluRegMem .ADD .A (eaDP s) false s)

/-- 0x69 `ADDC A, (DP)` (R205): `m <- MemRead(DP, 1); (r, f) <- ALU(ADD, A, m, F.C); A <- r; F <- f`. -/
def execAddcA_atDP (s : State) : Result := .next (aluRegMem .ADD .A (eaDP s) (s.flag .C) s)

/-- 0x6A `SUB A, (DP)` (R206): `m <- MemRead(DP, 1); (r, f) <- ALU(SUB, A, m, 0); A <- r; F <- f`. -/
def execSubA_atDP (s : State) : Result := .next (aluRegMem .SUB .A (eaDP s) false s)

/-- 0x6B `SUBB A, (DP)` (R207): `m <- MemRead(DP, 1); (r, f) <- ALU(SUB, A, m, F.C); A <- r; F <- f`. -/
def execSubbA_atDP (s : State) : Result := .next (aluRegMem .SUB .A (eaDP s) (s.flag .C) s)

/-- 0x6C `ADD (DP), A` (R208): `m <- MemRead(DP, 1); (r, f) <- ALU(ADD, m, A, 0); MemWrite(DP, 1, r); F <- f`. -/
def execAddAtDP_A (s : State) : Result := .next (updateMem (eaDP s) (fun m => alu .ADD m s.a false) s)

/-- 0x6D `ADDC (DP), A` (R209): `m <- MemRead(DP, 1); (r, f) <- ALU(ADD, m, A, F.C); MemWrite(DP, 1, r); F <- f`. -/
def execAddcAtDP_A (s : State) : Result := .next (updateMem (eaDP s) (fun m => alu .ADD m s.a (s.flag .C)) s)

/-- 0x6E `SUB (DP), A` (R210): `m <- MemRead(DP, 1); (r, f) <- ALU(SUB, m, A, 0); MemWrite(DP, 1, r); F <- f`. -/
def execSubAtDP_A (s : State) : Result := .next (updateMem (eaDP s) (fun m => alu .SUB m s.a false) s)

/-- 0x6F `SUBB (DP), A` (R211): `m <- MemRead(DP, 1); (r, f) <- ALU(SUB, m, A, F.C); MemWrite(DP, 1, r); F <- f`. -/
def execSubbAtDP_A (s : State) : Result := .next (updateMem (eaDP s) (fun m => alu .SUB m s.a (s.flag .C)) s)

/-- 0x70 `INC A` (R212): `(r, f) <- ALU(ADD, A, 1, 0); A <- r; F <- f`. -/
def execIncA (s : State) : Result := .next (aluReg .ADD .A 1 false s)

/-- 0x71 `DEC A` (R213): `(r, f) <- ALU(SUB, A, 1, 0); A <- r; F <- f`. -/
def execDecA (s : State) : Result := .next (aluReg .SUB .A 1 false s)

/-- 0x72 `INC (DP)` (R214): `m <- MemRead(DP, 1); (r, f) <- ALU(ADD, m, 1, 0); MemWrite(DP, 1, r); F <- f`. -/
def execIncAtDP (s : State) : Result := .next (updateMem (eaDP s) (fun m => alu .ADD m 1 false) s)

/-- 0x73 `DEC (DP)` (R215): `m <- MemRead(DP, 1); (r, f) <- ALU(SUB, m, 1, 0); MemWrite(DP, 1, r); F <- f`. -/
def execDecAtDP (s : State) : Result := .next (updateMem (eaDP s) (fun m => alu .SUB m 1 false) s)

/-- 0x74 `INC (nn)` (R216): `nn <- fetch16(); m <- MemRead(nn, 1); (r, f) <- ALU(ADD, m, 1, 0); MemWrite(nn, 1, r); F
<- f`. -/
def execIncAtNN (nn : Word) (s : State) : Result := .next (updateMem nn (fun m => alu .ADD m 1 false) s)

/-- 0x75 `DEC (nn)` (R217): `nn <- fetch16(); m <- MemRead(nn, 1); (r, f) <- ALU(SUB, m, 1, 0); MemWrite(nn, 1, r); F
<- f`. -/
def execDecAtNN (nn : Word) (s : State) : Result := .next (updateMem nn (fun m => alu .SUB m 1 false) s)

/-- 0x76 `CLR A` (R218): `A <- 0`. -/
def execClrA (s : State) : Result := .next (s.setReg .A 0)

/-- 0x77 `CPL A` (R219): `(r, f) <- ALU(XOR, A, 0xFF, 0); A <- r; F <- f`. -/
def execCplA (s : State) : Result := .next (aluReg .XOR .A 0xFF false s)

end Sys2Proof.Machine
end

