-- ==== Sys2Proof/Machine/Alu8Logic.lean ====
section
/-! DEFINITION. The logic, compare and test instructions and the arithmetic instructions with an immediate on `(DP)`
(42_alu8_part2.md). -/

namespace Sys2Proof.Machine

/-- 0x78 `AND A, B` (R220): `(r, f) <- ALU(AND, A, B, 0); A <- r; F <- f`. -/
def execAndA_B (s : State) : Result := .next (aluReg .AND .A s.b false s)

/-- 0x79 `AND A, C` (R221): `(r, f) <- ALU(AND, A, C, 0); A <- r; F <- f`. -/
def execAndA_C (s : State) : Result := .next (aluReg .AND .A s.c false s)

/-- 0x7A `AND A, D` (R222): `(r, f) <- ALU(AND, A, D, 0); A <- r; F <- f`. -/
def execAndA_D (s : State) : Result := .next (aluReg .AND .A s.d false s)

/-- 0x7B `AND A, n` (R223): `n <- fetch8(); (r, f) <- ALU(AND, A, n, 0); A <- r; F <- f`. -/
def execAndA_n (n : Byte) (s : State) : Result := .next (aluReg .AND .A n false s)

/-- 0x7C `AND B, n` (R224): `n <- fetch8(); (r, f) <- ALU(AND, B, n, 0); B <- r; F <- f`. -/
def execAndB_n (n : Byte) (s : State) : Result := .next (aluReg .AND .B n false s)

/-- 0x7D `AND C, n` (R225): `n <- fetch8(); (r, f) <- ALU(AND, C, n, 0); C <- r; F <- f`. -/
def execAndC_n (n : Byte) (s : State) : Result := .next (aluReg .AND .C n false s)

/-- 0x7E `AND D, n` (R226): `n <- fetch8(); (r, f) <- ALU(AND, D, n, 0); D <- r; F <- f`. -/
def execAndD_n (n : Byte) (s : State) : Result := .next (aluReg .AND .D n false s)

/-- 0x7F `OR A, B` (R227): `(r, f) <- ALU(OR, A, B, 0); A <- r; F <- f`. -/
def execOrA_B (s : State) : Result := .next (aluReg .OR .A s.b false s)

/-- 0x80 `OR A, C` (R228): `(r, f) <- ALU(OR, A, C, 0); A <- r; F <- f`. -/
def execOrA_C (s : State) : Result := .next (aluReg .OR .A s.c false s)

/-- 0x81 `OR A, D` (R229): `(r, f) <- ALU(OR, A, D, 0); A <- r; F <- f`. -/
def execOrA_D (s : State) : Result := .next (aluReg .OR .A s.d false s)

/-- 0x82 `OR A, n` (R230): `n <- fetch8(); (r, f) <- ALU(OR, A, n, 0); A <- r; F <- f`. -/
def execOrA_n (n : Byte) (s : State) : Result := .next (aluReg .OR .A n false s)

/-- 0x83 `OR B, n` (R231): `n <- fetch8(); (r, f) <- ALU(OR, B, n, 0); B <- r; F <- f`. -/
def execOrB_n (n : Byte) (s : State) : Result := .next (aluReg .OR .B n false s)

/-- 0x84 `OR C, n` (R232): `n <- fetch8(); (r, f) <- ALU(OR, C, n, 0); C <- r; F <- f`. -/
def execOrC_n (n : Byte) (s : State) : Result := .next (aluReg .OR .C n false s)

/-- 0x85 `OR D, n` (R233): `n <- fetch8(); (r, f) <- ALU(OR, D, n, 0); D <- r; F <- f`. -/
def execOrD_n (n : Byte) (s : State) : Result := .next (aluReg .OR .D n false s)

/-- 0x86 `XOR A, B` (R234): `(r, f) <- ALU(XOR, A, B, 0); A <- r; F <- f`. -/
def execXorA_B (s : State) : Result := .next (aluReg .XOR .A s.b false s)

/-- 0x87 `XOR A, C` (R235): `(r, f) <- ALU(XOR, A, C, 0); A <- r; F <- f`. -/
def execXorA_C (s : State) : Result := .next (aluReg .XOR .A s.c false s)

/-- 0x88 `XOR A, D` (R236): `(r, f) <- ALU(XOR, A, D, 0); A <- r; F <- f`. -/
def execXorA_D (s : State) : Result := .next (aluReg .XOR .A s.d false s)

/-- 0x89 `XOR A, n` (R237): `n <- fetch8(); (r, f) <- ALU(XOR, A, n, 0); A <- r; F <- f`. -/
def execXorA_n (n : Byte) (s : State) : Result := .next (aluReg .XOR .A n false s)

/-- 0x8A `XOR B, n` (R238): `n <- fetch8(); (r, f) <- ALU(XOR, B, n, 0); B <- r; F <- f`. -/
def execXorB_n (n : Byte) (s : State) : Result := .next (aluReg .XOR .B n false s)

/-- 0x8B `XOR C, n` (R239): `n <- fetch8(); (r, f) <- ALU(XOR, C, n, 0); C <- r; F <- f`. -/
def execXorC_n (n : Byte) (s : State) : Result := .next (aluReg .XOR .C n false s)

/-- 0x8C `XOR D, n` (R240): `n <- fetch8(); (r, f) <- ALU(XOR, D, n, 0); D <- r; F <- f`. -/
def execXorD_n (n : Byte) (s : State) : Result := .next (aluReg .XOR .D n false s)

/-- 0x8D `CP A, C` (R241): `(r, f) <- ALU(SUB, A, C, 0); F <- f (r is discarded)`. -/
def execCpA_C (s : State) : Result := .next (s.setF (alu .SUB s.a s.c false).2)

/-- 0x8E `CP A, D` (R242): `(r, f) <- ALU(SUB, A, D, 0); F <- f (r is discarded)`. -/
def execCpA_D (s : State) : Result := .next (s.setF (alu .SUB s.a s.d false).2)

/-- 0xA6 `CP A, B` (R266): `(r, f) <- ALU(SUB, A, B, 0); F <- f (r is discarded)`. -/
def execCpA_B (s : State) : Result := .next (s.setF (alu .SUB s.a s.b false).2)

/-- 0xA7 `CP A, n` (R267): `n <- fetch8(); (r, f) <- ALU(SUB, A, n, 0); F <- f (r is discarded)`. -/
def execCpA_n (n : Byte) (s : State) : Result := .next (s.setF (alu .SUB s.a n false).2)

/-- 0xA8 `CP B, n` (R268): `n <- fetch8(); (r, f) <- ALU(SUB, B, n, 0); F <- f (r is discarded)`. -/
def execCpB_n (n : Byte) (s : State) : Result := .next (s.setF (alu .SUB s.b n false).2)

/-- 0xA9 `CP C, n` (R269): `n <- fetch8(); (r, f) <- ALU(SUB, C, n, 0); F <- f (r is discarded)`. -/
def execCpC_n (n : Byte) (s : State) : Result := .next (s.setF (alu .SUB s.c n false).2)

/-- 0xAA `CP D, n` (R270): `n <- fetch8(); (r, f) <- ALU(SUB, D, n, 0); F <- f (r is discarded)`. -/
def execCpD_n (n : Byte) (s : State) : Result := .next (s.setF (alu .SUB s.d n false).2)

/-- 0xAB `CP A, (DP)` (R271): `m <- MemRead(DP, 1); (r, f) <- ALU(SUB, A, m, 0); F <- f (r is discarded)`. -/
def execCpA_atDP (s : State) : Result := .next (s.readThen (eaDP s) fun m t => t.setF (alu .SUB s.a m false).2)

/-- 0xAC `CP (DP), n` (R272): `n <- fetch8(); m <- MemRead(DP, 1); (r, f) <- ALU(SUB, m, n, 0); F <- f (r is
discarded; memory is not written)`. -/
def execCpAtDP_n (n : Byte) (s : State) : Result :=
  .next (s.readThen (eaDP s) fun m t => t.setF (alu .SUB m n false).2)

/-- 0xAD `TEST A, n` (R273): `n <- fetch8(); (r, f) <- ALU(AND, A, n, 0); F <- f (r is discarded)`. -/
def execTestA_n (n : Byte) (s : State) : Result := .next (s.setF (alu .AND s.a n false).2)

/-- 0xB8 `ADD (DP), n` (R284): `n <- fetch8(); m <- MemRead(DP, 1); (r, f) <- ALU(ADD, m, n, 0); MemWrite(DP, 1, r); F
<- f`. -/
def execAddAtDP_n (n : Byte) (s : State) : Result := .next (updateMem (eaDP s) (fun m => alu .ADD m n false) s)

/-- 0xB9 `ADDC (DP), n` (R285): `n <- fetch8(); m <- MemRead(DP, 1); (r, f) <- ALU(ADD, m, n, F.C); MemWrite(DP, 1,
r); F <- f`. -/
def execAddcAtDP_n (n : Byte) (s : State) : Result := .next (updateMem (eaDP s) (fun m => alu .ADD m n (s.flag .C)) s)

/-- 0xBA `SUB (DP), n` (R286): `n <- fetch8(); m <- MemRead(DP, 1); (r, f) <- ALU(SUB, m, n, 0); MemWrite(DP, 1, r); F
<- f`. -/
def execSubAtDP_n (n : Byte) (s : State) : Result := .next (updateMem (eaDP s) (fun m => alu .SUB m n false) s)

/-- 0xBB `SUBB (DP), n` (R287): `n <- fetch8(); m <- MemRead(DP, 1); (r, f) <- ALU(SUB, m, n, F.C); MemWrite(DP, 1,
r); F <- f`. -/
def execSubbAtDP_n (n : Byte) (s : State) : Result := .next (updateMem (eaDP s) (fun m => alu .SUB m n (s.flag .C)) s)

/-- 0xBC `AND A, (DP)` (R288): `m <- MemRead(DP, 1); (r, f) <- ALU(AND, A, m, 0); A <- r; F <- f`. -/
def execAndA_atDP (s : State) : Result := .next (aluRegMem .AND .A (eaDP s) false s)

/-- 0xBD `AND (DP), A` (R289): `m <- MemRead(DP, 1); (r, f) <- ALU(AND, m, A, 0); MemWrite(DP, 1, r); F <- f`. -/
def execAndAtDP_A (s : State) : Result := .next (updateMem (eaDP s) (fun m => alu .AND m s.a false) s)

/-- 0xBE `AND (DP), n` (R290): `n <- fetch8(); m <- MemRead(DP, 1); (r, f) <- ALU(AND, m, n, 0); MemWrite(DP, 1, r); F
<- f`. -/
def execAndAtDP_n (n : Byte) (s : State) : Result := .next (updateMem (eaDP s) (fun m => alu .AND m n false) s)

/-- 0xBF `OR A, (DP)` (R291): `m <- MemRead(DP, 1); (r, f) <- ALU(OR, A, m, 0); A <- r; F <- f`. -/
def execOrA_atDP (s : State) : Result := .next (aluRegMem .OR .A (eaDP s) false s)

/-- 0xC0 `OR (DP), A` (R292): `m <- MemRead(DP, 1); (r, f) <- ALU(OR, m, A, 0); MemWrite(DP, 1, r); F <- f`. -/
def execOrAtDP_A (s : State) : Result := .next (updateMem (eaDP s) (fun m => alu .OR m s.a false) s)

/-- 0xC1 `OR (DP), n` (R293): `n <- fetch8(); m <- MemRead(DP, 1); (r, f) <- ALU(OR, m, n, 0); MemWrite(DP, 1, r); F
<- f`. -/
def execOrAtDP_n (n : Byte) (s : State) : Result := .next (updateMem (eaDP s) (fun m => alu .OR m n false) s)

/-- 0xC2 `XOR A, (DP)` (R294): `m <- MemRead(DP, 1); (r, f) <- ALU(XOR, A, m, 0); A <- r; F <- f`. -/
def execXorA_atDP (s : State) : Result := .next (aluRegMem .XOR .A (eaDP s) false s)

/-- 0xC3 `XOR (DP), A` (R295): `m <- MemRead(DP, 1); (r, f) <- ALU(XOR, m, A, 0); MemWrite(DP, 1, r); F <- f`. -/
def execXorAtDP_A (s : State) : Result := .next (updateMem (eaDP s) (fun m => alu .XOR m s.a false) s)

/-- 0xC4 `XOR (DP), n` (R296): `n <- fetch8(); m <- MemRead(DP, 1); (r, f) <- ALU(XOR, m, n, 0); MemWrite(DP, 1, r); F
<- f`. -/
def execXorAtDP_n (n : Byte) (s : State) : Result := .next (updateMem (eaDP s) (fun m => alu .XOR m n false) s)

end Sys2Proof.Machine
end

