-- ==== Sys2Proof/Machine/Control.lean ====
section
/-! DEFINITION. Control transfer and the interrupt enable (46_control.md). When an instruction executes, PC is the address after its
last byte (R511, R514; log 37). -/

namespace Sys2Proof.Machine

/-- A conditional jump (46_control.md R513). -/
def jumpIf (condition : Bool) (target : Word) (s : State) : State := if condition then s.setPc target else s

/-- A call: PC is pushed, high byte first, then loaded (46_control.md R514). -/
def callTo (target : Word) (s : State) : State := (s.push16 s.pc).setPc target

/-- 0x00 `NOP` (R100): `(nothing)`. -/
def execNop (s : State) : Result := .next s

/-- 0xC5 `JP nn` (R297): `nn <- fetch16(); pc <- nn`. -/
def execJp_nn (nn : Word) (s : State) : Result := .next (s.setPc nn)

/-- 0xC6 `JP C, nn` (R298): `nn <- fetch16(); if F.C = 1 then pc <- nn`. -/
def execJpC_nn (nn : Word) (s : State) : Result := .next (jumpIf (s.flag .C) nn s)

/-- 0xC7 `JP OV, nn` (R299): `nn <- fetch16(); if F.OV = 1 then pc <- nn`. -/
def execJpOV_nn (nn : Word) (s : State) : Result := .next (jumpIf (s.flag .OV) nn s)

/-- 0xC8 `JP Z, nn` (R300): `nn <- fetch16(); if F.Z = 1 then pc <- nn`. -/
def execJpZ_nn (nn : Word) (s : State) : Result := .next (jumpIf (s.flag .Z) nn s)

/-- 0xC9 `JP NEG, nn` (R301): `nn <- fetch16(); if F.NEG = 1 then pc <- nn`. -/
def execJpNEG_nn (nn : Word) (s : State) : Result := .next (jumpIf (s.flag .NEG) nn s)

/-- 0xCA `JP POS, nn` (R302): `nn <- fetch16(); if F.POS = 1 then pc <- nn`. -/
def execJpPOS_nn (nn : Word) (s : State) : Result := .next (jumpIf (s.flag .POS) nn s)

/-- 0xCB `JP EQ, nn` (R303): `nn <- fetch16(); if F.EQ = 1 then pc <- nn`. -/
def execJpEQ_nn (nn : Word) (s : State) : Result := .next (jumpIf (s.flag .EQ) nn s)

/-- 0xCC `JP LT, nn` (R304): `nn <- fetch16(); if F.LT = 1 then pc <- nn`. -/
def execJpLT_nn (nn : Word) (s : State) : Result := .next (jumpIf (s.flag .LT) nn s)

/-- 0xCD `JP GT, nn` (R305): `nn <- fetch16(); if F.GT = 1 then pc <- nn`. -/
def execJpGT_nn (nn : Word) (s : State) : Result := .next (jumpIf (s.flag .GT) nn s)

/-- 0xCE `JP DP + d` (R306): `d <- fetch8(); pc <- padd(DP, sext_16(d))`. -/
def execJpDPd (d : Byte) (s : State) : Result := .next (s.setPc (eaDPd s d))

/-- 0xCF `JR d` (R307): `d <- fetch8(); pc <- padd(PC, sext_16(d))`. -/
def execJr_d (d : Byte) (s : State) : Result := .next (s.setPc (relativeTarget s d))

/-- 0xD0 `JR C, d` (R308): `d <- fetch8(); if F.C = 1 then pc <- padd(PC, sext_16(d))`. -/
def execJrC_d (d : Byte) (s : State) : Result := .next (jumpIf (s.flag .C) (relativeTarget s d) s)

/-- 0xD1 `DI` (R309): `IE <- 0`. -/
def execDi (s : State) : Result := .next (s.setIe false)

/-- 0xD2 `JR OV, d` (R310): `d <- fetch8(); if F.OV = 1 then pc <- padd(PC, sext_16(d))`. -/
def execJrOV_d (d : Byte) (s : State) : Result := .next (jumpIf (s.flag .OV) (relativeTarget s d) s)

/-- 0xD3 `JR Z, d` (R311): `d <- fetch8(); if F.Z = 1 then pc <- padd(PC, sext_16(d))`. -/
def execJrZ_d (d : Byte) (s : State) : Result := .next (jumpIf (s.flag .Z) (relativeTarget s d) s)

/-- 0xD4 `JR NEG, d` (R312): `d <- fetch8(); if F.NEG = 1 then pc <- padd(PC, sext_16(d))`. -/
def execJrNEG_d (d : Byte) (s : State) : Result := .next (jumpIf (s.flag .NEG) (relativeTarget s d) s)

/-- 0xD5 `JR POS, d` (R313): `d <- fetch8(); if F.POS = 1 then pc <- padd(PC, sext_16(d))`. -/
def execJrPOS_d (d : Byte) (s : State) : Result := .next (jumpIf (s.flag .POS) (relativeTarget s d) s)

/-- 0xD6 `JR EQ, d` (R314): `d <- fetch8(); if F.EQ = 1 then pc <- padd(PC, sext_16(d))`. -/
def execJrEQ_d (d : Byte) (s : State) : Result := .next (jumpIf (s.flag .EQ) (relativeTarget s d) s)

/-- 0xD7 `JR LT, d` (R315): `d <- fetch8(); if F.LT = 1 then pc <- padd(PC, sext_16(d))`. -/
def execJrLT_d (d : Byte) (s : State) : Result := .next (jumpIf (s.flag .LT) (relativeTarget s d) s)

/-- 0xD8 `JR GT, d` (R316): `d <- fetch8(); if F.GT = 1 then pc <- padd(PC, sext_16(d))`. -/
def execJrGT_d (d : Byte) (s : State) : Result := .next (jumpIf (s.flag .GT) (relativeTarget s d) s)

/-- 0xD9 `JR NC, d` (R317): `d <- fetch8(); if F.C = 0 then pc <- padd(PC, sext_16(d))`. -/
def execJrNC_d (d : Byte) (s : State) : Result := .next (jumpIf (!s.flag .C) (relativeTarget s d) s)

/-- 0xDA `JR NOV, d` (R318): `d <- fetch8(); if F.OV = 0 then pc <- padd(PC, sext_16(d))`. -/
def execJrNOV_d (d : Byte) (s : State) : Result := .next (jumpIf (!s.flag .OV) (relativeTarget s d) s)

/-- 0xDB `JR NZ, d` (R319): `d <- fetch8(); if F.Z = 0 then pc <- padd(PC, sext_16(d))`. -/
def execJrNZ_d (d : Byte) (s : State) : Result := .next (jumpIf (!s.flag .Z) (relativeTarget s d) s)

/-- 0xDC `JR NNEG, d` (R320): `d <- fetch8(); if F.NEG = 0 then pc <- padd(PC, sext_16(d))`. -/
def execJrNNEG_d (d : Byte) (s : State) : Result := .next (jumpIf (!s.flag .NEG) (relativeTarget s d) s)

/-- 0xDD `JR NPOS, d` (R321): `d <- fetch8(); if F.POS = 0 then pc <- padd(PC, sext_16(d))`. -/
def execJrNPOS_d (d : Byte) (s : State) : Result := .next (jumpIf (!s.flag .POS) (relativeTarget s d) s)

/-- 0xDE `JR NEQ, d` (R322): `d <- fetch8(); if F.EQ = 0 then pc <- padd(PC, sext_16(d))`. -/
def execJrNEQ_d (d : Byte) (s : State) : Result := .next (jumpIf (!s.flag .EQ) (relativeTarget s d) s)

/-- 0xDF `JR NLT, d` (R323): `d <- fetch8(); if F.LT = 0 then pc <- padd(PC, sext_16(d))`. -/
def execJrNLT_d (d : Byte) (s : State) : Result := .next (jumpIf (!s.flag .LT) (relativeTarget s d) s)

/-- 0xE0 `JR NGT, d` (R324): `d <- fetch8(); if F.GT = 0 then pc <- padd(PC, sext_16(d))`. -/
def execJrNGT_d (d : Byte) (s : State) : Result := .next (jumpIf (!s.flag .GT) (relativeTarget s d) s)

/-- 0xE1 `EI` (R325): `IE <- 1`. -/
def execEi (s : State) : Result := .next (s.setIe true)

/-- 0xE2 `DJNZ d` (R326): `d <- fetch8(); B <- (B - 1)[7:0]; if B != 0 then pc <- padd(PC, sext_16(d))`. -/
def execDjnz_d (d : Byte) (s : State) : Result :=
  .next (jumpIf (s.b - 1 != 0) (relativeTarget s d) (s.setReg .B (s.b - 1)))

/-- 0xE3 `CALL nn` (R327): `nn <- fetch16(); push8(PC_H); push8(PC_L); pc <- nn`. -/
def execCall_nn (nn : Word) (s : State) : Result := .next (callTo nn s)

/-- 0xE4 `CALLR d` (R328): `d <- fetch8(); push8(PC_H); push8(PC_L); pc <- padd(PC, sext_16(d))`. -/
def execCallr_d (d : Byte) (s : State) : Result := .next (callTo (relativeTarget s d) s)

/-- 0xE5 `CALL DP + d` (R329): `d <- fetch8(); push8(PC_H); push8(PC_L); pc <- padd(DP, sext_16(d))`. -/
def execCallDPd (d : Byte) (s : State) : Result := .next (callTo (eaDPd s d) s)

/-- 0xE6 `RET` (R330): `PC_L <- pop8(); PC_H <- pop8()`. -/
def execRet (s : State) : Result := .next (returnOp s)

/-- 0xE7 `RETI` (R331): `PC_L <- pop8(); PC_H <- pop8(); IE <- 1; NOSAMPLE <- 1`. -/
def execReti (s : State) : Result := .next (returnFromInterrupt s)

/-- 0xFF `RESET` (R355): `A <- 0; B <- 0; C <- 0; D <- 0; F <- 0x24; SP <- 0xFFFF; DP <- 0x8080; pc <- 0x0000; IE <-
0; NOSAMPLE <- 0`. -/
def execReset (s : State) : Result := .next (resetOp s)

end Sys2Proof.Machine
end

