-- ==== Sys2Proof/Machine/ExtTables.lean ====
section
/-! DEFINITION. The results of the EXT operations whose formula is over real functions, as 48_ext_tables.md evaluates
them (R530, R531; decision D15: log 14). Each table is one number per line of the spec's table, sixteen 16-bit results in
reading order. -/

namespace Sys2Proof.Machine

/-- The result for an argument: line `arg / 16`, place `arg % 16` from the left (48_ext_tables.md R530). -/
def tableEntry (lines : List Nat) (arg : Byte) : Word :=
  BitVec.ofNat 16 ((lines.getD (arg.toNat / 16) 0) >>> (16 * (15 - arg.toNat % 16)))

/-- OP 0xEA, Square root (48_ext_tables.md R535). -/
def tableEA : List Nat := [
  0x00000100016A01BB0200023C027302A502D40300032A03510377039B03BE03DF,
  0x04000420043E045C0479049504B104CC04E6050005190532054B0563057A0591,
  0x05A805BF05D505EB06000615062A063F06530667067B068F06A206B506C806DB,
  0x06EE070007120724073607480759076B077C078D079E07AE07BF07CF07E007F0,
  0x080008100820082F083F084E085E086D087C088B089A08A908B808C608D508E3,
  0x08F20900090E091C092A0938094609540961096F097D098A099709A509B209BF,
  0x09CC09D909E609F30A000A0D0A190A260A330A3F0A4C0A580A640A710A7D0A89,
  0x0A950AA10AAD0AB90AC50AD10ADD0AE90AF40B000B0C0B170B230B2E0B3A0B45,
  0x0B500B5C0B670B720B7D0B880B930B9E0BA90BB40BBF0BCA0BD50BE00BEB0BF5,
  0x0C000C0B0C150C200C2A0C350C3F0C4A0C540C5F0C690C730C7D0C880C920C9C,
  0x0CA60CB00CBA0CC40CCE0CD80CE20CEC0CF60D000D0A0D140D1D0D270D310D3B,
  0x0D440D4E0D570D610D6B0D740D7E0D870D910D9A0DA30DAD0DB60DBF0DC90DD2,
  0x0DDB0DE40DEE0DF70E000E090E120E1B0E240E2D0E360E3F0E480E510E5A0E63,
  0x0E6C0E750E7E0E870E8F0E980EA10EAA0EB20EBB0EC40ECC0ED50EDE0EE60EEF,
  0x0EF70F000F090F110F1A0F220F2A0F330F3B0F440F4C0F540F5D0F650F6D0F76,
  0x0F7E0F860F8E0F970F9F0FA70FAF0FB70FBF0FC80FD00FD80FE00FE80FF00FF8]

/-- OP 0xEB, Cube root (48_ext_tables.md R536). -/
def tableEB : List Nat := [
  0x0000010001430171019601B601D101EA0200021502280239024A025A02690277,
  0x02850292029F02AB02B702C202CD02D802E202ED02F6030003090313031B0324,
  0x032D0335033D0345034D0355035D0364036C0373037A03810388038F0395039C,
  0x03A203A903AF03B503BC03C203C803CE03D303D903DF03E503EA03F003F503FB,
  0x04000405040B04100415041A041F04240429042E04330438043C04410446044A,
  0x044F04540458045D04610466046A046E04730477047B047F04840488048C0490,
  0x04940498049C04A004A404A804AC04B004B404B804BC04BF04C304C704CB04CE,
  0x04D204D604D904DD04E104E404E804EB04EF04F204F604F904FD050005030507,
  0x050A050E051105140517051B051E052105240528052B052E053105340538053B,
  0x053E054105440547054A054D0550055305560559055C055F056205650568056B,
  0x056E0571057405760579057C057F058205850587058A058D0590059205950598,
  0x059B059D05A005A305A505A805AB05AD05B005B305B505B805BB05BD05C005C2,
  0x05C505C705CA05CD05CF05D205D405D705D905DC05DE05E105E305E505E805EA,
  0x05ED05EF05F205F405F605F905FB05FE06000602060506070609060C060E0610,
  0x061306150617061A061C061E0620062306250627062A062C062E063006320635,
  0x06370639063B063E06400642064406460648064B064D064F0651065306550657]

/-- OP 0xEC, Exponent (48_ext_tables.md R537). -/
def tableEC : List Nat := [
  0x000100030007001400370094019304490BA51FA7560AE9E2FFFFFFFFFFFFFFFF,
  0xFFFFFFFFFFFFFFFFFFFFFFFFFFFFFFFFFFFFFFFFFFFFFFFFFFFFFFFFFFFFFFFF,
  0xFFFFFFFFFFFFFFFFFFFFFFFFFFFFFFFFFFFFFFFFFFFFFFFFFFFFFFFFFFFFFFFF,
  0xFFFFFFFFFFFFFFFFFFFFFFFFFFFFFFFFFFFFFFFFFFFFFFFFFFFFFFFFFFFFFFFF,
  0xFFFFFFFFFFFFFFFFFFFFFFFFFFFFFFFFFFFFFFFFFFFFFFFFFFFFFFFFFFFFFFFF,
  0xFFFFFFFFFFFFFFFFFFFFFFFFFFFFFFFFFFFFFFFFFFFFFFFFFFFFFFFFFFFFFFFF,
  0xFFFFFFFFFFFFFFFFFFFFFFFFFFFFFFFFFFFFFFFFFFFFFFFFFFFFFFFFFFFFFFFF,
  0xFFFFFFFFFFFFFFFFFFFFFFFFFFFFFFFFFFFFFFFFFFFFFFFFFFFFFFFFFFFFFFFF,
  0xFFFFFFFFFFFFFFFFFFFFFFFFFFFFFFFFFFFFFFFFFFFFFFFFFFFFFFFFFFFFFFFF,
  0xFFFFFFFFFFFFFFFFFFFFFFFFFFFFFFFFFFFFFFFFFFFFFFFFFFFFFFFFFFFFFFFF,
  0xFFFFFFFFFFFFFFFFFFFFFFFFFFFFFFFFFFFFFFFFFFFFFFFFFFFFFFFFFFFFFFFF,
  0xFFFFFFFFFFFFFFFFFFFFFFFFFFFFFFFFFFFFFFFFFFFFFFFFFFFFFFFFFFFFFFFF,
  0xFFFFFFFFFFFFFFFFFFFFFFFFFFFFFFFFFFFFFFFFFFFFFFFFFFFFFFFFFFFFFFFF,
  0xFFFFFFFFFFFFFFFFFFFFFFFFFFFFFFFFFFFFFFFFFFFFFFFFFFFFFFFFFFFFFFFF,
  0xFFFFFFFFFFFFFFFFFFFFFFFFFFFFFFFFFFFFFFFFFFFFFFFFFFFFFFFFFFFFFFFF,
  0xFFFFFFFFFFFFFFFFFFFFFFFFFFFFFFFFFFFFFFFFFFFFFFFFFFFFFFFFFFFFFFFF]

/-- OP 0xED, Natural logarithm (48_ext_tables.md R538). The argument 0 is decision D16 (log 15). -/
def tableED : List Nat := [
  0x8000000000B101190163019C01CB01F202140232024D0266027C029102A402B5,
  0x02C602D502E402F202FF030B03170323032E03380342034C0355035E0367036F,
  0x0377037F0387038E0395039C03A303AA03B003B703BD03C303C903CF03D403DA,
  0x03DF03E403E903EF03F403F803FD04020406040B040F04140418041C04210425,
  0x0429042D043104340438043C044004430447044A044E045104550458045B045F,
  0x046204650468046B046E047104740477047A047D0480048304860488048B048E,
  0x0490049304960498049B049D04A004A204A504A704AA04AC04AF04B104B304B6,
  0x04B804BA04BC04BF04C104C304C504C704CA04CC04CE04D004D204D404D604D8,
  0x04DA04DC04DE04E004E204E404E604E804EA04EC04ED04EF04F104F304F504F6,
  0x04F804FA04FC04FE04FF050105030504050605080509050B050D050E05100512,
  0x0513051505160518051A051B051D051E0520052105230524052605270529052A,
  0x052C052D052F0530053105330534053605370538053A053B053D053E053F0541,
  0x054205430545054605470549054A054B054C054E054F05500551055305540555,
  0x055605580559055A055B055C055E055F05600561056205640565056605670568,
  0x0569056B056C056D056E056F057005710572057305750576057705780579057A,
  0x057B057C057D057E057F058005810582058305840585058705880589058A058B]

/-- OP 0xEE, Base 2 logarithm (48_ext_tables.md R539). The argument 0 is decision D16 (log 15). -/
def tableEE : List Nat := [
  0x800000000100019602000252029602CF0300032C03520376039603B303CF03E8,
  0x04000416042C043F0452046404760486049604A504B304C104CF04DC04E804F4,
  0x0500050B05160521052C0536053F05490552055C0564056D0576057E0586058E,
  0x0596059D05A505AC05B305BA05C105C805CF05D505DC05E205E805EE05F405FA,
  0x06000606060B06110616061C06210626062C06310636063B063F06440649064E,
  0x06520657065C066006640669066D06710676067A067E06820686068A068E0692,
  0x0696069A069D06A106A506A906AC06B006B306B706BA06BE06C106C506C806CB,
  0x06CF06D206D506D806DC06DF06E206E506E806EB06EE06F106F406F706FA06FD,
  0x0700070307060709070B070E0711071407160719071C071E0721072407260729,
  0x072C072E0731073307360738073B073D073F0742074407470749074B074E0750,
  0x0752075507570759075C075E07600762076407670769076B076D076F07710774,
  0x07760778077A077C077E07800782078407860788078A078C078E079007920794,
  0x07960798079A079B079D079F07A107A307A507A707A907AA07AC07AE07B007B2,
  0x07B307B507B707B907BA07BC07BE07C007C107C307C507C607C807CA07CB07CD,
  0x07CF07D007D207D407D507D707D807DA07DC07DD07DF07E007E207E407E507E7,
  0x07E807EA07EB07ED07EE07F007F107F307F407F607F707F907FA07FC07FD07FF]

/-- OP 0xEF, Base 10 logarithm (48_ext_tables.md R540). The argument 0 is decision D16 (log 15). -/
def tableEF : List Nat := [
  0x80000000004D007A009A00B300C700D800E700F40100010B0114011D0125012D,
  0x0134013B01410147014D01520158015D01610166016A016E01720176017A017E,
  0x018101850188018B018E019101940197019A019D01A001A201A501A701AA01AC,
  0x01AE01B101B301B501B701B901BB01BE01C001C201C301C501C701C901CB01CD,
  0x01CE01D001D201D301D501D701D801DA01DB01DD01DF01E001E101E301E401E6,
  0x01E701E901EA01EB01ED01EE01EF01F101F201F301F401F601F701F801F901FA,
  0x01FB01FD01FE01FF020002010202020302040205020602080209020A020B020C,
  0x020D020E020F02100211021102120213021402150216021702180219021A021B,
  0x021B021C021D021E021F02200221022102220223022402250225022602270228,
  0x02290229022A022B022C022C022D022E022F022F023002310231023202330234,
  0x02340235023602360237023802380239023A023A023B023C023C023D023E023E,
  0x023F023F02400241024102420243024302440244024502460246024702470248,
  0x02490249024A024A024B024B024C024D024D024E024E024F024F025002500251,
  0x0251025202520253025402540255025502560256025702570258025802590259,
  0x025A025A025B025B025C025C025D025D025E025E025F025F025F026002600261,
  0x0261026202620263026302640264026502650265026602660267026702680268]

/-- OP 0xF0, Sine (48_ext_tables.md R541). -/
def tableF0 : List Nat := [
  0x000003240648096B0C8C0FAB12C815E218F91C0C1F1A2224252828272B1F2E11,
  0x30FC33DF36BA398D3C573F1741CE447B471D49B44C404EC05134539B55F65843,
  0x5A825CB45ED760EC62F264E966D068A76A6E6C246DCA6F5F70E3725573B67505,
  0x7642776C7885798A7A7D7B5D7C2A7CE47D8A7E1E7E9D7F0A7F627FA77FD97FF6,
  0x7FFF7FF67FD97FA77F627F0A7E9D7E1E7D8A7CE47C2A7B5D7A7D798A7885776C,
  0x7642750573B6725570E36F5F6DCA6C246A6E68A766D064E962F260EC5ED75CB4,
  0x5A82584355F6539B51344EC04C4049B4471D447B41CE3F173C57398D36BA33DF,
  0x30FC2E112B1F2827252822241F1A1C0C18F915E212C80FAB0C8C096B06480324,
  0x0000FCDCF9B8F695F374F055ED38EA1EE707E3F4E0E6DDDCDAD8D7D9D4E1D1EF,
  0xCF04CC21C946C673C3A9C0E9BE32BB85B8E3B64CB3C0B140AECCAC65AA0AA7BD,
  0xA57EA34CA1299F149D0E9B1799309759959293DC923690A18F1D8DAB8C4A8AFB,
  0x89BE8894877B8676858384A383D6831C827681E2816380F6809E80598027800A,
  0x8000800A80278059809E80F6816381E28276831C83D684A385838676877B8894,
  0x89BE8AFB8C4A8DAB8F1D90A1923693DC9592975999309B179D0E9F14A129A34C,
  0xA57EA7BDAA0AAC65AECCB140B3C0B64CB8E3BB85BE32C0E9C3A9C673C946CC21,
  0xCF04D1EFD4E1D7D9DAD8DDDCE0E6E3F4E707EA1EED38F055F374F695F9B8FCDC]

/-- OP 0xF1, Inverse sine (48_ext_tables.md R542). -/
def tableF1 : List Nat := [
  0x0000005100A300F40146019801E9023B028C02DE0330038103D30425047704C9,
  0x051B056D05C00612066406B7070A075C07AF0802085608A908FC095009A409F7,
  0x0A4C0AA00AF40B490B9E0BF30C480C9D0CF30D490D9F0DF50E4C0EA30EFA0F52,
  0x0FA91001105A10B3110C116511BF1219127312CE1329138513E1143D149A14F7,
  0x155515B41613167216D21732179317F5185718BA191E198219E71A4C1AB31B1A,
  0x1B821BEB1C541CBF1D2A1D971E041E731EE31F531FC5203920AD2123219A2213,
  0x228E230A238724072489250C2592261A26A4273227C1285428EB29842A212AC3,
  0x2B692C142CC42D7A2E372EFC2FCA30A131853277337A349335CA372938CA3AE7,
  0xC000C519C736C8D7CA36CB6DCC86CD89CE7BCF5FD036D104D1C9D286D33CD3EC,
  0xD497D53DD5DFD67CD715D7ACD83FD8CED95CD9E6DA6EDAF4DB77DBF9DC79DCF6,
  0xDD72DDEDDE66DEDDDF53DFC7E03BE0ADE11DE18DE1FCE269E2D6E341E3ACE415,
  0xE47EE4E6E54DE5B4E619E67EE6E2E746E7A9E80BE86DE8CEE92EE98EE9EDEA4C,
  0xEAABEB09EB66EBC3EC1FEC7BECD7ED32ED8DEDE7EE41EE9BEEF4EF4DEFA6EFFF,
  0xF057F0AEF106F15DF1B4F20BF261F2B7F30DF363F3B8F40DF462F4B7F50CF560,
  0xF5B4F609F65CF6B0F704F757F7AAF7FEF851F8A4F8F6F949F99CF9EEFA40FA93,
  0xFAE5FB37FB89FBDBFC2DFC7FFCD0FD22FD74FDC5FE17FE68FEBAFF0CFF5DFFAF]

/-- OP 0xF2, Cosine (48_ext_tables.md R543). -/
def tableF2 : List Nat := [
  0x7FFF7FF57FD87FA67F617F097E9C7E1D7D897CE37C297B5C7A7C79897884776B,
  0x7641750473B5725470E26F5E6DC96C236A6D68A666CF64E862F160EB5ED75CB3,
  0x5A82584255F5539B51334EBF4C3F49B4471C447A41CE3F173C56398C36BA33DF,
  0x30FB2E112B1F2826252822231F1A1C0B18F915E212C80FAB0C8C096A06480324,
  0x0000FCDCF9B8F696F374F055ED38EA1EE707E3F5E0E6DDDDDAD8D7DAD4E1D1EF,
  0xCF05CC21C946C674C3AAC0E9BE32BB86B8E4B64CB3C1B141AECDAC65AA0BA7BE,
  0xA57EA34DA1299F159D0F9B189931975A959393DD923790A28F1E8DAC8C4B8AFC,
  0x89BF8895877C8677858484A483D7831D827781E3816480F7809F805A8028800B,
  0x8001800B8028805A809F80F7816481E38277831D83D784A485848677877C8895,
  0x89BF8AFC8C4B8DAC8F1E90A2923793DD9593975A99319B189D0F9F15A129A34D,
  0xA57EA7BEAA0BAC65AECDB141B3C1B64CB8E4BB86BE32C0E9C3AAC674C946CC21,
  0xCF05D1EFD4E1D7DADAD8DDDDE0E6E3F5E707EA1EED38F055F374F696F9B8FCDC,
  0x000003240648096A0C8C0FAB12C815E218F91C0B1F1A2223252828262B1F2E11,
  0x30FB33DF36BA398C3C563F1741CE447A471C49B44C3F4EBF5133539B55F55842,
  0x5A825CB35ED760EB62F164E866CF68A66A6D6C236DC96F5E70E2725473B57504,
  0x7641776B788479897A7C7B5C7C297CE37D897E1D7E9C7F097F617FA67FD87FF5]

/-- OP 0xF3, Inverse cosine (48_ext_tables.md R544). The place of the argument 0x80 holds 0 and is not read: that
result is a free value (log 38). -/
def tableF3 : List Nat := [
  0x40003FAE3F5C3F0A3EB73E653E133DC13D6F3D1C3CCA3C773C253BD23B803B2D,
  0x3ADA3A883A3539E2398F393B38E83895384137ED3799374536F1369D364935F4,
  0x359F354A34F534A0344A33F5339F334832F2329B324431ED3196313E30E6308E,
  0x30352FDC2F832F2A2ED02E762E1B2DC02D652D092CAD2C512BF42B962B382ADA,
  0x2A7B2A1C29BC295C28FB2899283727D42771270D26A8264325DD2576250E24A6,
  0x243C23D2236722FB228E222021B1214120CF205D1FE91F741EFE1E861E0C1D91,
  0x1D151C961C161B941B101A8A1A01197618E8185817C4172D169315F5155314AC,
  0x14011350129911DB111510470F6E0E8A0D970C930B790A4108E0073E051E0000,
  0x00007FFF7AE278C2772075BF7487736D7269717670926FB96EEB6E256D676CB0,
  0x6BFF6B546AAD6A0B696D68D3683C67A86718668A65FF657664F0646C63EA636A,
  0x62EB626F61F4617A6102608C60175FA35F315EBF5E4F5DE05D725D055C995C2E,
  0x5BC45B5A5AF25A8A5A2359BD595858F3588F582C57C95767570556A4564455E4,
  0x5585552654C8546A540C53AF535352F7529B524051E5518A513050D6507D5024,
  0x4FCB4F724F1A4EC24E6A4E134DBC4D654D0E4CB84C614C0B4BB64B604B0B4AB6,
  0x4A614A0C49B74963490F48BB4867481347BF476B471846C54671461E45CB4578,
  0x452644D34480442E43DB4389433642E44291423F41ED419B414940F640A44052]

/-- OP 0xF4, Tangent (48_ext_tables.md R545). The place of the argument 0x80 holds 0 and is not read: that result is a
free value (log 38). -/
def tableF4 : List Nat := [
  0x0000000300060009000D0010001300160019001C0020002300260029002C0030,
  0x003300360039003D004000430047004A004E005100550058005C005F00630066,
  0x006A006E007100750079007D008100850089008D009100950099009E00A200A7,
  0x00AB00B000B400B900BE00C300C800CD00D200D700DD00E200E800EE00F400FA,
  0x01000106010D0114011A012201290130013801400148015001590162016B0175,
  0x017F018A0194019F01AB01B701C401D101DF01ED01FD020D021D022F02420255,
  0x026A0280029802B102CB02E803070328034C0373039D03CB03FE0436047404B9,
  0x0507055F05C3063706BE075D081C09040A270B9D0D8F1047145B1B2628BC517C,
  0x0000AE84D744E4DAEBA5EFB9F271F463F5D9F6FCF7E4F8A3F942F9C9FA3DFAA1,
  0xFAF9FB47FB8CFBCAFC02FC35FC63FC8DFCB4FCD8FCF9FD18FD35FD4FFD68FD80,
  0xFD96FDABFDBEFDD1FDE3FDF3FE03FE13FE21FE2FFE3CFE49FE55FE61FE6CFE76,
  0xFE81FE8BFE95FE9EFEA7FEB0FEB8FEC0FEC8FED0FED7FEDEFEE6FEECFEF3FEFA,
  0xFF00FF06FF0CFF12FF18FF1EFF23FF29FF2EFF33FF38FF3DFF42FF47FF4CFF50,
  0xFF55FF59FF5EFF62FF67FF6BFF6FFF73FF77FF7BFF7FFF83FF87FF8BFF8FFF92,
  0xFF96FF9AFF9DFFA1FFA4FFA8FFABFFAFFFB2FFB6FFB9FFBDFFC0FFC3FFC7FFCA,
  0xFFCDFFD0FFD4FFD7FFDAFFDDFFE0FFE4FFE7FFEAFFEDFFF0FFF3FFF7FFFAFFFD]

/-- OP 0xF5, Inverse tangent (48_ext_tables.md R546). -/
def tableF5 : List Nat := [
  0x000005160A220F1A13F618AE1D3C219B25C829C12D8531143470379A3A933D5F,
  0x4000427844CA46F849044AF24CC34E795016519C530C546855B256EB5813592D,
  0x5A385B365C295D0F5DEC5EBE5F87604760FE61AE625762F96394642A64B96543,
  0x65C8664866C3673A67AD681C688768EE695269B36A116A6C6AC46B196B6C6BBC,
  0x6C0A6C556C9F6CE66D2B6D6F6DB06DF06E2E6E6B6EA66EDF6F176F4E6F836FB7,
  0x6FEA701C704C707B70AA70D77103712E7158718171AA71D171F8721E72437267,
  0x728B72AE72D072F17312733373527371739073AD73CB73E874047420743B7456,
  0x7470748A74A374BC74D574ED7505751C7533754975607576758B75A075B575CA,
  0x8A228A368A4B8A608A758A8A8AA08AB78ACD8AE48AFB8B138B2B8B448B5D8B76,
  0x8B908BAA8BC58BE08BFC8C188C358C538C708C8F8CAE8CCD8CEE8D0F8D308D52,
  0x8D758D998DBD8DE28E088E2F8E568E7F8EA88ED28EFD8F298F568F858FB48FE4,
  0x90169049907D90B290E99121915A919591D292109250929192D5931A936193AB,
  0x93F69444949494E7953C959495EF964D96AE9712977997E4985398C6993D99B8,
  0x9A389ABD9B479BD69C6C9D079DA99E529F029FB9A079A142A214A2F1A3D7A4CA,
  0xA5C8A6D3A7EDA915AA4EAB98ACF4AE64AFEAB187B33DB50EB6FCB908BB36BD88,
  0xC000C2A1C56DC866CB90CEECD27BD63FDA38DE65E2C4E752EC0AF0E6F5DEFAEA]

/-- OP 0xFA, Square root fractional (48_ext_tables.md R551). -/
def tableFA : List Nat := [
  0x0000100016A11BB6200023C727312A552D41300032993511376D39B03BDE3DF8,
  0x400041F843E245BE478E49524B0C4CBC4E6250005196532354AA562A57A35916,
  0x5A825BEA5D4C5EA86000615362A163EC6531667367B168EB6A226B556C846DB1,
  0x6EDA7000712372437361747B759376A977BC78CC79DA7AE67BEF7CF77DFC7EFF,
  0x800080FF81FC82F783F084E885DE86D287C488B489A38A908B7C8C668D4F8E36,
  0x8F1C900090E391C492A493839461953D961896F297CA98A199779A4C9B209BF3,
  0x9CC49D959E649F33A000A0CCA198A262A32BA3F4A4BBA581A647A70BA7CFA892,
  0xA954AA15AAD5AB95AC53AD11ADCEAE8AAF45B000B0BAB173B22BB2E3B399B450,
  0xB505B5BAB66EB721B7D3B885B937B9E7BA97BB46BBF5BCA3BD51BDFDBEA9BF55,
  0xC000C0AAC154C1FDC2A6C34EC3F6C49CC543C5E9C68EC733C7D7C87BC91EC9C1,
  0xCA63CB04CBA6CC46CCE6CD86CE25CEC4CF62D000D09DD13AD1D7D272D30ED3A9,
  0xD444D4DED577D611D6AAD742D7DAD872D909D9A0DA36DACCDB62DBF7DC8BDD20,
  0xDDB4DE47DEDBDF6EE000E092E124E1B5E246E2D7E367E3F7E487E516E5A5E633,
  0xE6C1E74FE7DDE86AE8F7E983EA0FEA9BEB27EBB2EC3DECC7ED51EDDBEE65EEEE,
  0xEF77F000F088F110F198F220F2A7F32EF3B4F43BF4C1F546F5CCF651F6D6F75B,
  0xF7DFF863F8E7F96AF9EEFA71FAF3FB76FBF8FC7AFCFBFD7DFDFEFE7FFEFFFF80]

/-- OP 0xFB, Cube root fractional (48_ext_tables.md R552). -/
def tableFB : List Nat := [
  0x0000285132CC3A26400044F149434D2050A353DD56DD59AA5C4E5ECD612C636E,
  0x659867AB69A96B956D706F3C70F972A8744C75E4777178F47A6D7BDE7D477EA7,
  0x80008152829D83E285208659878C88BA89E28B068C258D408E568F6890769180,
  0x9286938994889584967C9772986499539A409B299C109CF59DD69EB69F92A06D,
  0xA145A21BA2EFA3C0A490A55DA629A6F3A7BAA880A944AA06AAC7AB86AC43ACFF,
  0xADB9AE72AF29AFDEB092B145B1F6B2A6B355B402B4AEB558B602B6AAB751B7F7,
  0xB89CB93FB9E2BA83BB23BBC2BC60BCFDBD9ABE35BECFBF68C000C097C12EC1C3,
  0xC257C2EBC37EC410C4A1C531C5C0C64FC6DDC76AC7F6C882C90CC996CA20CAA8,
  0xCB30CBB7CC3DCCC3CD48CDCDCE50CED3CF56CFD8D059D0D9D159D1D8D257D2D5,
  0xD353D3D0D44CD4C8D543D5BED638D6B2D72BD7A3D81BD893D90AD980D9F6DA6C,
  0xDAE0DB55DBC9DC3DDCB0DD22DD94DE06DE77DEE8DF58DFC8E038E0A7E115E183,
  0xE1F1E25FE2CBE338E3A4E410E47BE4E6E551E5BBE625E68EE6F7E760E7C8E830,
  0xE897E8FFE965E9CCEA32EA98EAFDEB62EBC7EC2CEC90ECF3ED57EDBAEE1DEE7F,
  0xEEE1EF43EFA5F006F067F0C8F128F188F1E8F247F2A6F305F364F3C2F420F47E,
  0xF4DBF538F595F5F2F64EF6AAF706F761F7BCF817F872F8CDF927F981F9DBFA34,
  0xFA8DFAE6FB3FFB97FBF0FC48FC9FFCF7FD4EFDA5FDFCFE53FEA9FEFFFF55FFAB]

/-- OP 0xFC, Exponent fractional (48_ext_tables.md R553). -/
def tableFC : List Nat := [
  0x0100010101020103010401050106010701080109010A010B010C010D010E010F,
  0x011101120113011401150116011701180119011A011B011C011E011F01200121,
  0x0122012301240126012701280129012A012B012C012E012F0130013101320134,
  0x0135013601370138013A013B013C013D013F0140014101420144014501460147,
  0x0149014A014B014D014E014F0151015201530154015601570158015A015B015D,
  0x015E015F0161016201630165016601680169016A016C016D016F017001720173,
  0x0174017601770179017A017C017D017F0180018201830185018601880189018B,
  0x018D018E0190019101930194019601970199019B019C019E01A001A101A301A4,
  0x01A601A801A901AB01AD01AE01B001B201B301B501B701B901BA01BC01BE01C0,
  0x01C101C301C501C701C801CA01CC01CE01D001D101D301D501D701D901DB01DC,
  0x01DE01E001E201E401E601E801EA01EC01ED01EF01F101F301F501F701F901FB,
  0x01FD01FF02010203020502070209020B020D020F0211021302160218021A021C,
  0x021E02200222022402260229022B022D022F0231023402360238023A023C023F,
  0x0241024302450248024A024C024F0251025302560258025A025D025F02610264,
  0x02660269026B026D0270027202750277027A027C027F0281028402860289028B,
  0x028E0290029302950298029B029D02A002A202A502A802AA02AD02B002B202B5]

/-- OP 0xFD, Natural logarithm fractional (48_ext_tables.md R554). The argument 0 is decision D16 (log 15). -/
def tableFD : List Nat := [
  0x8000FA74FB26FB8EFBD7FC10FC3FFC67FC89FCA7FCC2FCDAFCF1FD05FD18FD2A,
  0xFD3AFD4AFD58FD66FD73FD80FD8CFD97FDA2FDACFDB7FDC0FDC9FDD2FDDBFDE4,
  0xFDECFDF4FDFBFE03FE0AFE11FE18FE1EFE25FE2BFE31FE37FE3DFE43FE49FE4E,
  0xFE53FE59FE5EFE63FE68FE6DFE72FE76FE7BFE7FFE84FE88FE8DFE91FE95FE99,
  0xFE9DFEA1FEA5FEA9FEADFEB0FEB4FEB8FEBBFEBFFEC2FEC6FEC9FECCFED0FED3,
  0xFED6FED9FEDDFEE0FEE3FEE6FEE9FEECFEEFFEF2FEF4FEF7FEFAFEFDFF00FF02,
  0xFF05FF08FF0AFF0DFF0FFF12FF14FF17FF19FF1CFF1EFF21FF23FF25FF28FF2A,
  0xFF2CFF2FFF31FF33FF35FF38FF3AFF3CFF3EFF40FF42FF44FF46FF48FF4BFF4D,
  0xFF4FFF51FF53FF54FF56FF58FF5AFF5CFF5EFF60FF62FF64FF65FF67FF69FF6B,
  0xFF6DFF6EFF70FF72FF74FF75FF77FF79FF7BFF7CFF7EFF80FF81FF83FF84FF86,
  0xFF88FF89FF8BFF8CFF8EFF90FF91FF93FF94FF96FF97FF99FF9AFF9CFF9DFF9F,
  0xFFA0FFA2FFA3FFA4FFA6FFA7FFA9FFAAFFABFFADFFAEFFB0FFB1FFB2FFB4FFB5,
  0xFFB6FFB8FFB9FFBAFFBCFFBDFFBEFFC0FFC1FFC2FFC3FFC5FFC6FFC7FFC8FFCA,
  0xFFCBFFCCFFCDFFCFFFD0FFD1FFD2FFD3FFD5FFD6FFD7FFD8FFD9FFDAFFDCFFDD,
  0xFFDEFFDFFFE0FFE1FFE2FFE3FFE5FFE6FFE7FFE8FFE9FFEAFFEBFFECFFEDFFEE,
  0xFFEFFFF1FFF2FFF3FFF4FFF5FFF6FFF7FFF8FFF9FFFAFFFBFFFCFFFDFFFEFFFF]

/-- OP 0xFE, Base 2 logarithm fractional (48_ext_tables.md R555). The argument 0 is decision D16 (log 15). -/
def tableFE : List Nat := [
  0x8000F800F900F996FA00FA52FA96FACFFB00FB2CFB52FB76FB96FBB3FBCFFBE8,
  0xFC00FC16FC2CFC3FFC52FC64FC76FC86FC96FCA5FCB3FCC1FCCFFCDCFCE8FCF4,
  0xFD00FD0BFD16FD21FD2CFD36FD3FFD49FD52FD5CFD64FD6DFD76FD7EFD86FD8E,
  0xFD96FD9DFDA5FDACFDB3FDBAFDC1FDC8FDCFFDD5FDDCFDE2FDE8FDEEFDF4FDFA,
  0xFE00FE06FE0BFE11FE16FE1CFE21FE26FE2CFE31FE36FE3BFE3FFE44FE49FE4E,
  0xFE52FE57FE5CFE60FE64FE69FE6DFE71FE76FE7AFE7EFE82FE86FE8AFE8EFE92,
  0xFE96FE9AFE9DFEA1FEA5FEA9FEACFEB0FEB3FEB7FEBAFEBEFEC1FEC5FEC8FECB,
  0xFECFFED2FED5FED8FEDCFEDFFEE2FEE5FEE8FEEBFEEEFEF1FEF4FEF7FEFAFEFD,
  0xFF00FF03FF06FF09FF0BFF0EFF11FF14FF16FF19FF1CFF1EFF21FF24FF26FF29,
  0xFF2CFF2EFF31FF33FF36FF38FF3BFF3DFF3FFF42FF44FF47FF49FF4BFF4EFF50,
  0xFF52FF55FF57FF59FF5CFF5EFF60FF62FF64FF67FF69FF6BFF6DFF6FFF71FF74,
  0xFF76FF78FF7AFF7CFF7EFF80FF82FF84FF86FF88FF8AFF8CFF8EFF90FF92FF94,
  0xFF96FF98FF9AFF9BFF9DFF9FFFA1FFA3FFA5FFA7FFA9FFAAFFACFFAEFFB0FFB2,
  0xFFB3FFB5FFB7FFB9FFBAFFBCFFBEFFC0FFC1FFC3FFC5FFC6FFC8FFCAFFCBFFCD,
  0xFFCFFFD0FFD2FFD4FFD5FFD7FFD8FFDAFFDCFFDDFFDFFFE0FFE2FFE4FFE5FFE7,
  0xFFE8FFEAFFEBFFEDFFEEFFF0FFF1FFF3FFF4FFF6FFF7FFF9FFFAFFFCFFFDFFFF]

/-- OP 0xFF, Base 10 logarithm fractional (48_ext_tables.md R556). The argument 0 is decision D16 (log 15). -/
def tableFF : List Nat := [
  0x8000FD97FDE5FE12FE32FE4AFE5FFE70FE7FFE8CFE97FEA2FEACFEB5FEBDFEC5,
  0xFECCFED2FED9FEDFFEE5FEEAFEEFFEF4FEF9FEFDFF02FF06FF0AFF0EFF12FF15,
  0xFF19FF1CFF20FF23FF26FF29FF2CFF2FFF32FF34FF37FF3AFF3CFF3FFF41FF44,
  0xFF46FF48FF4AFF4DFF4FFF51FF53FF55FF57FF59FF5BFF5DFF5FFF61FF62FF64,
  0xFF66FF68FF69FF6BFF6DFF6EFF70FF71FF73FF75FF76FF78FF79FF7AFF7CFF7D,
  0xFF7FFF80FF81FF83FF84FF85FF87FF88FF89FF8BFF8CFF8DFF8EFF8FFF91FF92,
  0xFF93FF94FF95FF96FF97FF99FF9AFF9BFF9CFF9DFF9EFF9FFFA0FFA1FFA2FFA3,
  0xFFA4FFA5FFA6FFA7FFA8FFA9FFAAFFABFFACFFADFFAEFFAFFFAFFFB0FFB1FFB2,
  0xFFB3FFB4FFB5FFB6FFB6FFB7FFB8FFB9FFBAFFBAFFBBFFBCFFBDFFBEFFBEFFBF,
  0xFFC0FFC1FFC2FFC2FFC3FFC4FFC5FFC5FFC6FFC7FFC7FFC8FFC9FFCAFFCAFFCB,
  0xFFCCFFCCFFCDFFCEFFCEFFCFFFD0FFD1FFD1FFD2FFD2FFD3FFD4FFD4FFD5FFD6,
  0xFFD6FFD7FFD8FFD8FFD9FFD9FFDAFFDBFFDBFFDCFFDCFFDDFFDEFFDEFFDFFFDF,
  0xFFE0FFE1FFE1FFE2FFE2FFE3FFE3FFE4FFE5FFE5FFE6FFE6FFE7FFE7FFE8FFE8,
  0xFFE9FFE9FFEAFFEBFFEBFFECFFECFFEDFFEDFFEEFFEEFFEFFFEFFFF0FFF0FFF1,
  0xFFF1FFF2FFF2FFF3FFF3FFF4FFF4FFF5FFF5FFF6FFF6FFF6FFF7FFF7FFF8FFF8,
  0xFFF9FFF9FFFAFFFAFFFBFFFBFFFCFFFCFFFCFFFDFFFDFFFEFFFEFFFFFFFF0000]

end Sys2Proof.Machine
end

