-- ==== Sys2Proof/Machine/ExtFunction.lean ====
section
/-! DEFINITION. The function `EXT(arg, OP)` of 44_ext.md R390 to R441: bit insertion, bit slicing, shifting and the 32
operations of the math mode. It is a function of two bytes and reads no state (R390). -/

namespace Sys2Proof.Machine

/-- `OP[5:3]`, the length L of the insertion and slicing modes (44_ext.md R391). -/
def extLength (op : Byte) : Nat := (op.extractLsb' 3 3).toNat

/-- `OP[2:0]`, the location P of the insertion and slicing modes and the count N of the shifting mode (44_ext.md R391). -/
def extPlace (op : Byte) : Nat := (op.extractLsb' 0 3).toNat

/-- Bit insertion, `OP = 0xxxxxxx` (44_ext.md R404): the masks of the stream word `W`; `res_L` is its left byte and `res_H`
its right byte (R400). A length of 0 inserts nothing (R405, decision D23: log 24). -/
def extInsert (arg op : Byte) : Word :=
  let sh := 16 - extPlace op - extLength op
  let ones := zext16 (BitVec.ofNat 8 (2 ^ extLength op - 1))
  let v := zext16 arg &&& ones
  let w := if op.getLsbD 6 then v <<< sh else (0xFFFF ^^^ (ones <<< sh)) ||| (v <<< sh)
  join16 (lo8 w) (hi8 w)

/-- Bit slicing, `OP = 10xxxxxx` (44_ext.md R408, R409): the slice right-aligned and 0, or what the byte holds of it moved
left to make room for the bits left, and their number. -/
def extSlice (arg op : Byte) : Word :=
  let l := extLength op
  let p := extPlace op
  if p + l ≤ 8 then
    join16 0 ((arg >>> (8 - p - l)) &&& BitVec.ofNat 8 (2 ^ l - 1))
  else
    join16 (BitVec.ofNat 8 (p + l - 8)) ((arg &&& BitVec.ofNat 8 (2 ^ (8 - p) - 1)) <<< (p + l - 8))

/-- Shifts and rotates, `OP = 110xxxxx`: left (44_ext.md R412), right with the bits shifted out left-aligned in `res_H`
(R413, decision D18: log 17), rotate left (R414), rotate right (R415), by `OP[4:3]`. -/
def extShift (arg op : Byte) : Word :=
  let n := extPlace op
  if op.extractLsb' 3 2 = 0 then zext16 arg <<< n
  else if op.extractLsb' 3 2 = 1 then join16 (arg <<< (8 - n)) (arg >>> n)
  else if op.extractLsb' 3 2 = 2 then join16 0 ((arg <<< n) ||| (arg >>> (8 - n)))
  else join16 0 ((arg >>> n) ||| (arg <<< (8 - n)))

/-- 0xE1: the nibbles exchanged (44_ext.md R421). -/
def swapNibbles (arg : Byte) : Byte := (arg <<< 4) ||| (arg >>> 4)

/-- 0xE2: bit `i` of the result is bit `7 - i` of `arg` (44_ext.md R421). -/
def mirrorBits (arg : Byte) : Byte := arg.reverse

/-- 0xE3: the number of ones (44_ext.md R421). -/
def countOnes (arg : Byte) : Byte :=
  BitVec.ofNat 8 (((List.range 8).filter arg.getLsbD).length)

/-- 0xE7: two's complement to sign-magnitude and back; 0x80 stays (44_ext.md R425, decision D29: log 30). -/
def signMagnitude (arg : Byte) : Byte :=
  if arg.msb then 0x80 ||| ((0 - arg) &&& 0x7F) else arg

/-- The result byte of an operation whose high byte is not stated: that byte is a free value (44_ext.md R420; log 13). -/
def lowOnly (op low : Byte) : Word := join16 (Config.extHighUnstated op) low

/-- 0xE5: arithmetic shift right by one; the bit that leaves is bit 7 of `res_H`, whose other bits are a free value
(44_ext.md R423; log 13). -/
def shiftRightSigned (arg : Byte) : Word :=
  join16 ((arg <<< 7) ||| (Config.extHighUnstated 0xE5 &&& 0x7F)) ((arg >>> 1) ||| (arg &&& 0x80))

/-- `satu` of a natural number: 65535 at most (44_ext.md R418). -/
def satu (n : Nat) : Word := BitVec.ofNat 16 (min 65535 n)

/-- The math mode, `OP = 111xxxxx`, one operation per value of OP[4:0] (44_ext.md R417, R421 to R441). -/
def extMath (arg op : Byte) : Word :=
  match op.extractLsb' 0 5 with
  | 0x00 => join16 0 (~~~arg)
  | 0x01 => lowOnly op (swapNibbles arg)
  | 0x02 => lowOnly op (mirrorBits arg)
  | 0x03 => lowOnly op (countOnes arg)
  | 0x04 => lowOnly op (0 - arg)
  | 0x05 => shiftRightSigned arg
  | 0x06 => lowOnly op (if arg.msb then 0 - arg else arg)
  | 0x07 => lowOnly op (signMagnitude arg)
  | 0x08 => satu (arg.toNat * arg.toNat)
  | 0x09 => satu (arg.toNat * arg.toNat * arg.toNat)
  | 0x0A => tableEntry tableEA arg
  | 0x0B => tableEntry tableEB arg
  | 0x0C => tableEntry tableEC arg
  | 0x0D => tableEntry tableED arg
  | 0x0E => tableEntry tableEE arg
  | 0x0F => tableEntry tableEF arg
  | 0x10 => tableEntry tableF0 arg
  | 0x11 => tableEntry tableF1 arg
  | 0x12 => tableEntry tableF2 arg
  | 0x13 => if arg = 0x80 then Config.extUndefAcos else tableEntry tableF3 arg
  | 0x14 => if arg = 0x80 then Config.extUndefTan else tableEntry tableF4 arg
  | 0x15 => tableEntry tableF5 arg
  | 0x16 => satu (arg.toInt * arg.toInt).toNat
  | 0x17 => satu (4 * (arg.toInt * arg.toInt)).toNat
  | 0x18 => satu (arg.toNat * arg.toNat)
  | 0x19 => satu ((arg.toNat * arg.toNat * arg.toNat + 128) / 256)
  | 0x1A => tableEntry tableFA arg
  | 0x1B => tableEntry tableFB arg
  | 0x1C => tableEntry tableFC arg
  | 0x1D => tableEntry tableFD arg
  | 0x1E => tableEntry tableFE arg
  | _ => tableEntry tableFF arg

/-- `EXT(arg, OP)` (44_ext.md R390): the mode is chosen by the top bits of OP. -/
def ext (arg op : Byte) : Word :=
  if !op.getLsbD 7 then extInsert arg op
  else if !op.getLsbD 6 then extSlice arg op
  else if !op.getLsbD 5 then extShift arg op
  else extMath arg op

end Sys2Proof.Machine
end

