-- ==== Sys2Proof/Machine/Ext.lean ====
section
/-! DEFINITION. The five EXT instructions (44_ext.md R253 to R257). None affects F. -/

namespace Sys2Proof.Machine

/-- 0x99 `EXT A` (R253): `res <- EXT(A, B); A <- res[7:0]; B <- res[15:8]`. -/
def execExtA (s : State) : Result := .next (s.setAB (ext s.a s.b))

/-- 0x9A `EXTDIR A, oper` (R254): `oper <- fetch8(); res <- EXT(A, oper); A <- res[7:0]; B <- res[15:8]`. -/
def execExtdirA_oper (oper : Byte) (s : State) : Result := .next (s.setAB (ext s.a oper))

/-- 0x9B `EXT (DP), A` (R255): `res <- EXT(A, B); MemWrite(DP, 1, res[7:0]); MemWrite(padd(DP, 1), 1, res[15:8])`. -/
def execExtAtDP_A (s : State) : Result := .next (s.memWrite16 (eaDP s) (ext s.a s.b))

/-- 0x9C `EXT CD, A` (R256): `res <- EXT(A, B); C <- res[7:0]; D <- res[15:8]`. -/
def execExtCD_A (s : State) : Result := .next (s.setCD (ext s.a s.b))

/-- 0x9D `EXTDIRL A, oper` (R257): `oper <- fetch8(); res <- EXT(A, oper); A <- res[7:0] (B unchanged)`. -/
def execExtdirlA_oper (oper : Byte) (s : State) : Result := .next (s.setReg .A (lo8 (ext s.a oper)))

end Sys2Proof.Machine
end

