-- ==== Sys2Proof/Machine/InOut.lean ====
section
/-! DEFINITION. Input and output (47_io.md): the selector byte `sel` names the address `IO(s)` in the window 0x8000 to 0x80FF
(20_memory.md R56). -/

namespace Sys2Proof.Machine

/-- 0xE8 `OUT (s), A` (R332): `s <- fetch8(); MemWrite(IO(s), 1, A)`. -/
def execOutAtS_A (sel : Byte) (s : State) : Result := .next (s.memWrite (ioAddress sel) s.a)

/-- 0xE9 `OUT (s), B` (R333): `s <- fetch8(); MemWrite(IO(s), 1, B)`. -/
def execOutAtS_B (sel : Byte) (s : State) : Result := .next (s.memWrite (ioAddress sel) s.b)

/-- 0xEA `OUT (s), C` (R334): `s <- fetch8(); MemWrite(IO(s), 1, C)`. -/
def execOutAtS_C (sel : Byte) (s : State) : Result := .next (s.memWrite (ioAddress sel) s.c)

/-- 0xEB `OUT (s), D` (R335): `s <- fetch8(); MemWrite(IO(s), 1, D)`. -/
def execOutAtS_D (sel : Byte) (s : State) : Result := .next (s.memWrite (ioAddress sel) s.d)

/-- 0xEC `OUT (s), n` (R336): `n <- fetch8(); s <- fetch8(); MemWrite(IO(s), 1, n)`. -/
def execOutAtS_n (n : Byte) (sel : Byte) (s : State) : Result := .next (s.memWrite (ioAddress sel) n)

/-- 0xED `OUT (s), (DP)` (R337): `s <- fetch8(); t <- MemRead(DP, 1); MemWrite(IO(s), 1, t)`. -/
def execOutAtS_atDP (sel : Byte) (s : State) : Result := .next (copyByte (eaDP s) (ioAddress sel) s)

/-- 0xEE `OUTI (s), (DP)` (R338): `s <- fetch8(); t <- MemRead(DP, 1); MemWrite(IO(s), 1, t); DP <- padd(DP, 1)`. -/
def execOutiAtS_atDP (sel : Byte) (s : State) : Result := .next (stepDp 1 (copyByte (eaDP s) (ioAddress sel) s))

/-- 0xEF `OUTD (s), (DP)` (R339): `s <- fetch8(); t <- MemRead(DP, 1); MemWrite(IO(s), 1, t); DP <- padd(DP, -1)`. -/
def execOutdAtS_atDP (sel : Byte) (s : State) : Result := .next (stepDp 0xFFFF (copyByte (eaDP s) (ioAddress sel) s))

/-- 0xF0 `IN A, (s)` (R340): `s <- fetch8(); A <- MemRead(IO(s), 1)`. -/
def execInA_atS (sel : Byte) (s : State) : Result := .next (loadFrom .A (ioAddress sel) s)

/-- 0xF1 `IN B, (s)` (R341): `s <- fetch8(); B <- MemRead(IO(s), 1)`. -/
def execInB_atS (sel : Byte) (s : State) : Result := .next (loadFrom .B (ioAddress sel) s)

/-- 0xF2 `IN C, (s)` (R342): `s <- fetch8(); C <- MemRead(IO(s), 1)`. -/
def execInC_atS (sel : Byte) (s : State) : Result := .next (loadFrom .C (ioAddress sel) s)

/-- 0xF3 `IN D, (s)` (R343): `s <- fetch8(); D <- MemRead(IO(s), 1)`. -/
def execInD_atS (sel : Byte) (s : State) : Result := .next (loadFrom .D (ioAddress sel) s)

/-- 0xF4 `IN (DP), (s)` (R344): `s <- fetch8(); t <- MemRead(IO(s), 1); MemWrite(DP, 1, t)`. -/
def execInAtDP_atS (sel : Byte) (s : State) : Result := .next (copyByte (ioAddress sel) (eaDP s) s)

/-- 0xF5 `INI (DP), (s)` (R345): `s <- fetch8(); t <- MemRead(IO(s), 1); MemWrite(DP, 1, t); DP <- padd(DP, 1)`. -/
def execIniAtDP_atS (sel : Byte) (s : State) : Result := .next (stepDp 1 (copyByte (ioAddress sel) (eaDP s) s))

/-- 0xF6 `IND (DP), (s)` (R346): `s <- fetch8(); t <- MemRead(IO(s), 1); MemWrite(DP, 1, t); DP <- padd(DP, -1)`. -/
def execIndAtDP_atS (sel : Byte) (s : State) : Result := .next (stepDp 0xFFFF (copyByte (ioAddress sel) (eaDP s) s))

/-- 0xF7 `INCIO (s)` (R347): `s <- fetch8(); m <- MemRead(IO(s), 1); (r, f) <- ALU(ADD, m, 1, 0); MemWrite(IO(s), 1,
r); F <- f`. -/
def execIncioAtS (sel : Byte) (s : State) : Result :=
  .next (updateMem (ioAddress sel) (fun m => alu .ADD m 1 false) s)

/-- 0xF8 `DECIO (s)` (R348): `s <- fetch8(); m <- MemRead(IO(s), 1); (r, f) <- ALU(SUB, m, 1, 0); MemWrite(IO(s), 1,
r); F <- f`. -/
def execDecioAtS (sel : Byte) (s : State) : Result :=
  .next (updateMem (ioAddress sel) (fun m => alu .SUB m 1 false) s)

/-- 0xF9 `ANDIO (s), A` (R349): `s <- fetch8(); m <- MemRead(IO(s), 1); (r, f) <- ALU(AND, A, m, 0); MemWrite(IO(s),
1, r); F <- f`. -/
def execAndioAtS_A (sel : Byte) (s : State) : Result :=
  .next (updateMem (ioAddress sel) (fun m => alu .AND s.a m false) s)

/-- 0xFA `ANDIO (s), n` (R350): `s <- fetch8(); n <- fetch8(); m <- MemRead(IO(s), 1); (r, f) <- ALU(AND, m, n, 0);
MemWrite(IO(s), 1, r); F <- f`. -/
def execAndioAtS_n (sel : Byte) (n : Byte) (s : State) : Result :=
  .next (updateMem (ioAddress sel) (fun m => alu .AND m n false) s)

/-- 0xFB `ORIO (s), A` (R351): `s <- fetch8(); m <- MemRead(IO(s), 1); (r, f) <- ALU(OR, A, m, 0); MemWrite(IO(s), 1,
r); F <- f`. -/
def execOrioAtS_A (sel : Byte) (s : State) : Result :=
  .next (updateMem (ioAddress sel) (fun m => alu .OR s.a m false) s)

/-- 0xFC `ORIO (s), n` (R352): `s <- fetch8(); n <- fetch8(); m <- MemRead(IO(s), 1); (r, f) <- ALU(OR, m, n, 0);
MemWrite(IO(s), 1, r); F <- f`. -/
def execOrioAtS_n (sel : Byte) (n : Byte) (s : State) : Result :=
  .next (updateMem (ioAddress sel) (fun m => alu .OR m n false) s)

/-- 0xFD `XORIO (s), A` (R353): `s <- fetch8(); m <- MemRead(IO(s), 1); (r, f) <- ALU(XOR, A, m, 0); MemWrite(IO(s),
1, r); F <- f`. -/
def execXorioAtS_A (sel : Byte) (s : State) : Result :=
  .next (updateMem (ioAddress sel) (fun m => alu .XOR s.a m false) s)

/-- 0xFE `XORIO (s), n` (R354): `s <- fetch8(); n <- fetch8(); m <- MemRead(IO(s), 1); (r, f) <- ALU(XOR, m, n, 0);
MemWrite(IO(s), 1, r); F <- f`. -/
def execXorioAtS_n (sel : Byte) (n : Byte) (s : State) : Result :=
  .next (updateMem (ioAddress sel) (fun m => alu .XOR m n false) s)

end Sys2Proof.Machine
end

