-- ==== Sys2Proof/Machine/LoadExchange.lean ====
section
/-! DEFINITION. The load and exchange instructions (40_load_exchange.md). None affects F. The two-byte operand order of
`LD (dd), (ss)` in memory is `ss`, then `dd` (30_encoding.md R77). -/

namespace Sys2Proof.Machine

/-- 0x01 `LD A, B` (R101): `A <- B`. -/
def execLdA_B (s : State) : Result := .next (s.setReg .A s.b)

/-- 0x02 `LD A, C` (R102): `A <- C`. -/
def execLdA_C (s : State) : Result := .next (s.setReg .A s.c)

/-- 0x03 `LD A, D` (R103): `A <- D`. -/
def execLdA_D (s : State) : Result := .next (s.setReg .A s.d)

/-- 0x04 `LD B, A` (R104): `B <- A`. -/
def execLdB_A (s : State) : Result := .next (s.setReg .B s.a)

/-- 0x05 `LD B, C` (R105): `B <- C`. -/
def execLdB_C (s : State) : Result := .next (s.setReg .B s.c)

/-- 0x06 `LD B, D` (R106): `B <- D`. -/
def execLdB_D (s : State) : Result := .next (s.setReg .B s.d)

/-- 0x07 `LD C, A` (R107): `C <- A`. -/
def execLdC_A (s : State) : Result := .next (s.setReg .C s.a)

/-- 0x08 `LD C, B` (R108): `C <- B`. -/
def execLdC_B (s : State) : Result := .next (s.setReg .C s.b)

/-- 0x09 `LD C, D` (R109): `C <- D`. -/
def execLdC_D (s : State) : Result := .next (s.setReg .C s.d)

/-- 0x0A `LD D, A` (R110): `D <- A`. -/
def execLdD_A (s : State) : Result := .next (s.setReg .D s.a)

/-- 0x0B `LD D, B` (R111): `D <- B`. -/
def execLdD_B (s : State) : Result := .next (s.setReg .D s.b)

/-- 0x0C `LD D, C` (R112): `D <- C`. -/
def execLdD_C (s : State) : Result := .next (s.setReg .D s.c)

/-- 0x0D `LD A, n` (R113): `n <- fetch8(); A <- n`. -/
def execLdA_n (n : Byte) (s : State) : Result := .next (s.setReg .A n)

/-- 0x0E `LD B, n` (R114): `n <- fetch8(); B <- n`. -/
def execLdB_n (n : Byte) (s : State) : Result := .next (s.setReg .B n)

/-- 0x0F `LD C, n` (R115): `n <- fetch8(); C <- n`. -/
def execLdC_n (n : Byte) (s : State) : Result := .next (s.setReg .C n)

/-- 0x10 `LD D, n` (R116): `n <- fetch8(); D <- n`. -/
def execLdD_n (n : Byte) (s : State) : Result := .next (s.setReg .D n)

/-- 0x11 `LD A, (DP)` (R117): `A <- MemRead(DP, 1)`. -/
def execLdA_atDP (s : State) : Result := .next (loadFrom .A (eaDP s) s)

/-- 0x12 `LD B, (DP)` (R118): `B <- MemRead(DP, 1)`. -/
def execLdB_atDP (s : State) : Result := .next (loadFrom .B (eaDP s) s)

/-- 0x13 `LD C, (DP)` (R119): `C <- MemRead(DP, 1)`. -/
def execLdC_atDP (s : State) : Result := .next (loadFrom .C (eaDP s) s)

/-- 0x14 `LD D, (DP)` (R120): `D <- MemRead(DP, 1)`. -/
def execLdD_atDP (s : State) : Result := .next (loadFrom .D (eaDP s) s)

/-- 0x15 `LD A, (DP + d)` (R121): `d <- fetch8(); ea <- padd(DP, sext_16(d)); A <- MemRead(ea, 1)`. -/
def execLdA_atDPd (d : Byte) (s : State) : Result := .next (loadFrom .A (eaDPd s d) s)

/-- 0x16 `LD B, (DP + d)` (R122): `d <- fetch8(); ea <- padd(DP, sext_16(d)); B <- MemRead(ea, 1)`. -/
def execLdB_atDPd (d : Byte) (s : State) : Result := .next (loadFrom .B (eaDPd s d) s)

/-- 0x17 `LD A, (DP + D + d)` (R123): `d <- fetch8(); ea <- padd(DP, sext_16(D) + sext_16(d)); A <- MemRead(ea, 1)`.
-/
def execLdA_atDPDd (d : Byte) (s : State) : Result := .next (loadFrom .A (eaDPDd s d) s)

/-- 0x18 `LD A, (SP + D + d)` (R124): `d <- fetch8(); ea <- padd(SP, sext_16(D) + sext_16(d)); A <- MemRead(ea, 1)`.
-/
def execLdA_atSPDd (d : Byte) (s : State) : Result := .next (loadFrom .A (eaSPDd s d) s)

/-- 0x19 `LD B, (SP + d)` (R125): `d <- fetch8(); ea <- padd(SP, sext_16(d)); B <- MemRead(ea, 1)`. -/
def execLdB_atSPd (d : Byte) (s : State) : Result := .next (loadFrom .B (eaSPd s d) s)

/-- 0x1A `LD C, (SP + d)` (R126): `d <- fetch8(); ea <- padd(SP, sext_16(d)); C <- MemRead(ea, 1)`. -/
def execLdC_atSPd (d : Byte) (s : State) : Result := .next (loadFrom .C (eaSPd s d) s)

/-- 0x1B `LD D, (SP + d)` (R127): `d <- fetch8(); ea <- padd(SP, sext_16(d)); D <- MemRead(ea, 1)`. -/
def execLdD_atSPd (d : Byte) (s : State) : Result := .next (loadFrom .D (eaSPd s d) s)

/-- 0x1C `LD A, (nn)` (R128): `nn <- fetch16(); A <- MemRead(nn, 1)`. -/
def execLdA_atNN (nn : Word) (s : State) : Result := .next (loadFrom .A nn s)

/-- 0x1D `LD B, (nn)` (R129): `nn <- fetch16(); B <- MemRead(nn, 1)`. -/
def execLdB_atNN (nn : Word) (s : State) : Result := .next (loadFrom .B nn s)

/-- 0x1E `LD C, (nn)` (R130): `nn <- fetch16(); C <- MemRead(nn, 1)`. -/
def execLdC_atNN (nn : Word) (s : State) : Result := .next (loadFrom .C nn s)

/-- 0x1F `LD D, (nn)` (R131): `nn <- fetch16(); D <- MemRead(nn, 1)`. -/
def execLdD_atNN (nn : Word) (s : State) : Result := .next (loadFrom .D nn s)

/-- 0x20 `LD (DP), A` (R132): `MemWrite(DP, 1, A)`. -/
def execLdAtDP_A (s : State) : Result := .next (s.memWrite (eaDP s) s.a)

/-- 0x21 `LD (DP), B` (R133): `MemWrite(DP, 1, B)`. -/
def execLdAtDP_B (s : State) : Result := .next (s.memWrite (eaDP s) s.b)

/-- 0x22 `LD (DP), C` (R134): `MemWrite(DP, 1, C)`. -/
def execLdAtDP_C (s : State) : Result := .next (s.memWrite (eaDP s) s.c)

/-- 0x23 `LD (DP), D` (R135): `MemWrite(DP, 1, D)`. -/
def execLdAtDP_D (s : State) : Result := .next (s.memWrite (eaDP s) s.d)

/-- 0x24 `LD (DP + d), A` (R136): `d <- fetch8(); ea <- padd(DP, sext_16(d)); MemWrite(ea, 1, A)`. -/
def execLdAtDPd_A (d : Byte) (s : State) : Result := .next (s.memWrite (eaDPd s d) s.a)

/-- 0x25 `LD (DP + d), B` (R137): `d <- fetch8(); ea <- padd(DP, sext_16(d)); MemWrite(ea, 1, B)`. -/
def execLdAtDPd_B (d : Byte) (s : State) : Result := .next (s.memWrite (eaDPd s d) s.b)

/-- 0x26 `LD (DP + D + d), A` (R138): `d <- fetch8(); ea <- padd(DP, sext_16(D) + sext_16(d)); MemWrite(ea, 1, A)`. -/
def execLdAtDPDd_A (d : Byte) (s : State) : Result := .next (s.memWrite (eaDPDd s d) s.a)

/-- 0x27 `LD (SP + D + d), A` (R139): `d <- fetch8(); ea <- padd(SP, sext_16(D) + sext_16(d)); MemWrite(ea, 1, A)`. -/
def execLdAtSPDd_A (d : Byte) (s : State) : Result := .next (s.memWrite (eaSPDd s d) s.a)

/-- 0x28 `LD (SP + d), B` (R140): `d <- fetch8(); ea <- padd(SP, sext_16(d)); MemWrite(ea, 1, B)`. -/
def execLdAtSPd_B (d : Byte) (s : State) : Result := .next (s.memWrite (eaSPd s d) s.b)

/-- 0x29 `LD (SP + d), C` (R141): `d <- fetch8(); ea <- padd(SP, sext_16(d)); MemWrite(ea, 1, C)`. -/
def execLdAtSPd_C (d : Byte) (s : State) : Result := .next (s.memWrite (eaSPd s d) s.c)

/-- 0x2A `LD (SP + d), D` (R142): `d <- fetch8(); ea <- padd(SP, sext_16(d)); MemWrite(ea, 1, D)`. -/
def execLdAtSPd_D (d : Byte) (s : State) : Result := .next (s.memWrite (eaSPd s d) s.d)

/-- 0x2B `LD (nn), A` (R143): `nn <- fetch16(); MemWrite(nn, 1, A)`. -/
def execLdAtNN_A (nn : Word) (s : State) : Result := .next (s.memWrite nn s.a)

/-- 0x2C `LD (nn), B` (R144): `nn <- fetch16(); MemWrite(nn, 1, B)`. -/
def execLdAtNN_B (nn : Word) (s : State) : Result := .next (s.memWrite nn s.b)

/-- 0x2D `LD (nn), C` (R145): `nn <- fetch16(); MemWrite(nn, 1, C)`. -/
def execLdAtNN_C (nn : Word) (s : State) : Result := .next (s.memWrite nn s.c)

/-- 0x2E `LD (nn), D` (R146): `nn <- fetch16(); MemWrite(nn, 1, D)`. -/
def execLdAtNN_D (nn : Word) (s : State) : Result := .next (s.memWrite nn s.d)

/-- 0x2F `LD (nn), n` (R147): `n <- fetch8(); nn <- fetch16(); MemWrite(nn, 1, n)`. -/
def execLdAtNN_n (n : Byte) (nn : Word) (s : State) : Result := .next (s.memWrite nn n)

/-- 0x30 `LD (dd), (ss)` (R148): `ss <- fetch16(); dd <- fetch16(); t <- MemRead(ss, 1); MemWrite(dd, 1, t)`. -/
def execLdAtDD_atSS (ss : Word) (dd : Word) (s : State) : Result := .next (copyByte ss dd s)

/-- 0x31 `LD A, (CD)` (R149): `A <- MemRead(CD, 1)`. -/
def execLdA_atCD (s : State) : Result := .next (loadFrom .A (eaCD s) s)

/-- 0x32 `LD (CD), A` (R150): `MemWrite(CD, 1, A)`. -/
def execLdAtCD_A (s : State) : Result := .next (s.memWrite (eaCD s) s.a)

/-- 0x33 `LD CD, (DP)` (R151): `C <- MemRead(DP, 1); D <- MemRead(padd(DP, 1), 1)`. -/
def execLdCD_atDP (s : State) : Result := .next (s.read16Then (eaDP s) fun v t => t.setCD v)

/-- 0x34 `LD (DP), CD` (R152): `MemWrite(DP, 1, C); MemWrite(padd(DP, 1), 1, D)`. -/
def execLdAtDP_CD (s : State) : Result := .next (s.memWrite16 (eaDP s) s.cd)

/-- 0x35 `LD DP, AB` (R153): `DP <- AB`. -/
def execLdDP_AB (s : State) : Result := .next (s.setDp s.ab)

/-- 0x36 `LD DP, nn` (R154): `nn <- fetch16(); DP <- nn`. -/
def execLdDP_nn (nn : Word) (s : State) : Result := .next (s.setDp nn)

/-- 0x37 `LD SP, nn` (R155): `nn <- fetch16(); SP <- nn`. -/
def execLdSP_nn (nn : Word) (s : State) : Result := .next (s.setSp nn)

/-- 0x38 `LD DP, SP + d` (R156): `d <- fetch8(); DP <- padd(SP, sext_16(d))`. -/
def execLdDP_SPd (d : Byte) (s : State) : Result := .next (s.setDp (eaSPd s d))

/-- 0x39 `EX AB, CD` (R157): `t <- AB; AB <- CD; CD <- t`. -/
def execExAB_CD (s : State) : Result := .next ((s.setAB s.cd).setCD s.ab)

/-- 0x3A `EX CD, DP` (R158): `t <- CD; CD <- DP; DP <- t`. -/
def execExCD_DP (s : State) : Result := .next ((s.setCD s.dp).setDp s.cd)

/-- 0x3B `EX DP, (nn)` (R159): `nn <- fetch16(); tl <- MemRead(nn, 1); th <- MemRead(padd(nn, 1), 1); MemWrite(nn, 1,
DP_L); MemWrite(padd(nn, 1), 1, DP_H); DP <- th:tl`. -/
def execExDP_atNN (nn : Word) (s : State) : Result :=
  .next (s.read16Then nn fun v t => (t.memWrite16 nn t.dp).setDp v)

/-- 0xAE `LD C, (DP + d)` (R274): `d <- fetch8(); ea <- padd(DP, sext_16(d)); C <- MemRead(ea, 1)`. -/
def execLdC_atDPd (d : Byte) (s : State) : Result := .next (loadFrom .C (eaDPd s d) s)

/-- 0xAF `LD D, (DP + d)` (R275): `d <- fetch8(); ea <- padd(DP, sext_16(d)); D <- MemRead(ea, 1)`. -/
def execLdD_atDPd (d : Byte) (s : State) : Result := .next (loadFrom .D (eaDPd s d) s)

/-- 0xB0 `LD (DP + d), C` (R276): `d <- fetch8(); ea <- padd(DP, sext_16(d)); MemWrite(ea, 1, C)`. -/
def execLdAtDPd_C (d : Byte) (s : State) : Result := .next (s.memWrite (eaDPd s d) s.c)

/-- 0xB1 `LD (DP + d), D` (R277): `d <- fetch8(); ea <- padd(DP, sext_16(d)); MemWrite(ea, 1, D)`. -/
def execLdAtDPd_D (d : Byte) (s : State) : Result := .next (s.memWrite (eaDPd s d) s.d)

/-- 0xB2 `LD A, (SP + d)` (R278): `d <- fetch8(); ea <- padd(SP, sext_16(d)); A <- MemRead(ea, 1)`. -/
def execLdA_atSPd (d : Byte) (s : State) : Result := .next (loadFrom .A (eaSPd s d) s)

/-- 0xB3 `LD (SP + d), A` (R279): `d <- fetch8(); ea <- padd(SP, sext_16(d)); MemWrite(ea, 1, A)`. -/
def execLdAtSPd_A (d : Byte) (s : State) : Result := .next (s.memWrite (eaSPd s d) s.a)

/-- 0xB4 `LD CD, SP` (R280): `CD <- SP`. -/
def execLdCD_SP (s : State) : Result := .next (s.setCD s.sp)

/-- 0xB5 `LD DP, CD + d` (R281): `d <- fetch8(); DP <- CD; DP <- padd(DP, sext_16(d))`. -/
def execLdDP_CDd (d : Byte) (s : State) : Result := .next (s.setDp (eaCDd s d))

end Sys2Proof.Machine
end

