-- ==== Sys2Proof/Machine/MulDiv.lean ====
section
/-! DEFINITION. Multiply and divide (43_muldiv.md): unsigned (R373), no flag is affected. -/

namespace Sys2Proof.Machine

/-- The 16-bit product of two bytes, which always fits (43_muldiv.md R373). -/
def product (a b : Byte) : Word := zext16 a * zext16 b

/-- The 24-bit product of AB and C (43_muldiv.md R247). -/
def wideProduct (ab : Word) (c : Byte) : BitVec 24 := ab.setWidth 24 * c.setWidth 24

/-- Writing a 24-bit value to A, B and C, low byte first (43_muldiv.md R247). -/
def setABC (p : BitVec 24) (s : State) : State :=
  ((s.setReg .A (p.extractLsb' 0 8)).setReg .B (p.extractLsb' 8 8)).setReg .C (p.extractLsb' 16 8)

/-- `UDIV(a, b)`: quotient and remainder; for a zero divisor the parameter `DIV0` of the dividend (43_muldiv.md R374,
R375; log 12). -/
def udiv (a b : Byte) : Byte × Byte := if b = 0 then Config.div0 a else (a / b, a % b)

/-- 0x8F `MUL AB` (R243): `p <- zext_16(A) * zext_16(B); A <- p[7:0]; B <- p[15:8]`. -/
def execMulAB (s : State) : Result := .next (s.setAB (product s.a s.b))

/-- 0x90 `MUL A, n` (R244): `n <- fetch8(); p <- zext_16(A) * zext_16(n); A <- p[7:0]; B <- p[15:8]`. -/
def execMulA_n (n : Byte) (s : State) : Result := .next (s.setAB (product s.a n))

/-- 0x91 `MUL (DP), AB` (R245): `p <- zext_16(A) * zext_16(B); MemWrite(DP, 1, p[7:0]); MemWrite(padd(DP, 1), 1,
p[15:8])`. -/
def execMulAtDP_AB (s : State) : Result := .next (s.memWrite16 (eaDP s) (product s.a s.b))

/-- 0x92 `MUL CD, AB` (R246): `p <- zext_16(A) * zext_16(B); C <- p[7:0]; D <- p[15:8]`. -/
def execMulCD_AB (s : State) : Result := .next (s.setCD (product s.a s.b))

/-- 0x93 `MUL16 AB, C` (R247): `p <- zext_24(AB) * zext_24(C); A <- p[7:0]; B <- p[15:8]; C <- p[23:16]`. -/
def execMul16AB_C (s : State) : Result := .next (setABC (wideProduct s.ab s.c) s)

/-- 0x94 `DIV A, B` (R248): `(q, m) <- UDIV(A, B); A <- q; B <- m`. -/
def execDivA_B (s : State) : Result := .next ((s.setReg .A (udiv s.a s.b).1).setReg .B (udiv s.a s.b).2)

/-- 0x95 `DIV A, n` (R249): `n <- fetch8(); (q, m) <- UDIV(A, n); A <- q; B <- m`. -/
def execDivA_n (n : Byte) (s : State) : Result := .next ((s.setReg .A (udiv s.a n).1).setReg .B (udiv s.a n).2)

/-- 0x96 `DIV (DP), AB` (R250): `(q, m) <- UDIV(A, B); MemWrite(DP, 1, q); MemWrite(padd(DP, 1), 1, m)`. -/
def execDivAtDP_AB (s : State) : Result := .next (s.memWrite16 (eaDP s) (join16 (udiv s.a s.b).2 (udiv s.a s.b).1))

/-- 0x97 `DIV CD, AB` (R251): `(q, m) <- UDIV(A, B); C <- q; D <- m`. -/
def execDivCD_AB (s : State) : Result := .next ((s.setReg .C (udiv s.a s.b).1).setReg .D (udiv s.a s.b).2)

/-- 0x98 `DIVNR A, B` (R252): `(q, m) <- UDIV(A, B); A <- q (m is discarded; B unchanged)`. -/
def execDivnrA_B (s : State) : Result := .next (s.setReg .A (udiv s.a s.b).1)

end Sys2Proof.Machine
end

