-- ==== Sys2Proof/Machine/Stack.lean ====
section
/-! DEFINITION. The stack instructions (41_stack.md). Only `POP F` and `POP ALL` write F (90_conflicts.md C9: log 45). -/

namespace Sys2Proof.Machine

/-- The frame of `PUSH ALL`: DP, CD, F, B, A, so that A lies lowest (41_stack.md R358). -/
def pushAll (s : State) : State :=
  ((((s.push16 s.dp).push16 s.cd).push8 s.f).push8 s.b).push8 s.a

/-- `POP ALL` takes the frame of `PUSH ALL` back, A first (41_stack.md R358). -/
def popAll (s : State) : State :=
  s.popThen fun a t0 => t0.popThen fun b t1 => t1.popThen fun f t2 => t2.pop16Then fun cd t3 =>
    t3.pop16Then fun dp t4 => ((((t4.setReg .A a).setReg .B b).setF f).setCD cd).setDp dp

/-- 0x3C `PUSH A` (R160): `push8(A)`. -/
def execPushA (s : State) : Result := .next (s.push8 s.a)

/-- 0x3D `PUSH B` (R161): `push8(B)`. -/
def execPushB (s : State) : Result := .next (s.push8 s.b)

/-- 0x3E `PUSH F` (R162): `push8(F)`. -/
def execPushF (s : State) : Result := .next (s.push8 s.f)

/-- 0x3F `PUSH CD` (R163): `push8(D); push8(C)`. -/
def execPushCD (s : State) : Result := .next (s.push16 s.cd)

/-- 0x40 `PUSH DP` (R164): `push8(DP_H); push8(DP_L)`. -/
def execPushDP (s : State) : Result := .next (s.push16 s.dp)

/-- 0x41 `PUSH ALL` (R165): `push8(DP_H); push8(DP_L); push8(D); push8(C); push8(F); push8(B); push8(A)`. -/
def execPushALL (s : State) : Result := .next (pushAll s)

/-- 0x42 `PUSH n` (R166): `n <- fetch8(); push8(n)`. -/
def execPush_n (n : Byte) (s : State) : Result := .next (s.push8 n)

/-- 0x43 `PUSH (nn)` (R167): `nn <- fetch16(); t <- MemRead(nn, 1); push8(t)`. -/
def execPushAtNN (nn : Word) (s : State) : Result := .next (s.readThen nn fun v t => t.push8 v)

/-- 0x44 `POP A` (R168): `A <- pop8()`. -/
def execPopA (s : State) : Result := .next (s.popThen fun v t => t.setReg .A v)

/-- 0x45 `POP B` (R169): `B <- pop8()`. -/
def execPopB (s : State) : Result := .next (s.popThen fun v t => t.setReg .B v)

/-- 0x46 `POP F` (R170): `F <- pop8()`. -/
def execPopF (s : State) : Result := .next (s.popThen fun v t => t.setF v)

/-- 0x47 `POP CD` (R171): `C <- pop8(); D <- pop8()`. -/
def execPopCD (s : State) : Result := .next (s.pop16Then fun v t => t.setCD v)

/-- 0x48 `POP DP` (R172): `DP_L <- pop8(); DP_H <- pop8()`. -/
def execPopDP (s : State) : Result := .next (s.pop16Then fun v t => t.setDp v)

/-- 0x49 `POP ALL` (R173): `A <- pop8(); B <- pop8(); F <- pop8(); C <- pop8(); D <- pop8(); DP_L <- pop8(); DP_H <-
pop8()`. -/
def execPopALL (s : State) : Result := .next (popAll s)

/-- 0x4A `POP (nn)` (R174): `nn <- fetch16(); t <- MemRead(SP, 1); MemWrite(nn, 1, t); SP <- padd(SP, 1)`. -/
def execPopAtNN (nn : Word) (s : State) : Result := .next (stepSp 1 (copyByte s.sp nn s))

end Sys2Proof.Machine
end

