-- ==== Sys2Proof/Machine/Dispatch.lean ====
section
/-! DEFINITION. The meaning of every instruction, one arm per constructor, in opcode order. -/

namespace Sys2Proof.Machine

def exec (i : Instr) (s : State) : Host.Outcome State Fault Refusal :=
  match i with
  | .nop => Sys2Proof.Machine.execNop s
  | .ldA_B => Sys2Proof.Machine.execLdA_B s
  | .ldA_C => Sys2Proof.Machine.execLdA_C s
  | .ldA_D => Sys2Proof.Machine.execLdA_D s
  | .ldB_A => Sys2Proof.Machine.execLdB_A s
  | .ldB_C => Sys2Proof.Machine.execLdB_C s
  | .ldB_D => Sys2Proof.Machine.execLdB_D s
  | .ldC_A => Sys2Proof.Machine.execLdC_A s
  | .ldC_B => Sys2Proof.Machine.execLdC_B s
  | .ldC_D => Sys2Proof.Machine.execLdC_D s
  | .ldD_A => Sys2Proof.Machine.execLdD_A s
  | .ldD_B => Sys2Proof.Machine.execLdD_B s
  | .ldD_C => Sys2Proof.Machine.execLdD_C s
  | .ldA_n n => Sys2Proof.Machine.execLdA_n n s
  | .ldB_n n => Sys2Proof.Machine.execLdB_n n s
  | .ldC_n n => Sys2Proof.Machine.execLdC_n n s
  | .ldD_n n => Sys2Proof.Machine.execLdD_n n s
  | .ldA_atDP => Sys2Proof.Machine.execLdA_atDP s
  | .ldB_atDP => Sys2Proof.Machine.execLdB_atDP s
  | .ldC_atDP => Sys2Proof.Machine.execLdC_atDP s
  | .ldD_atDP => Sys2Proof.Machine.execLdD_atDP s
  | .ldA_atDPd d => Sys2Proof.Machine.execLdA_atDPd d s
  | .ldB_atDPd d => Sys2Proof.Machine.execLdB_atDPd d s
  | .ldA_atDPDd d => Sys2Proof.Machine.execLdA_atDPDd d s
  | .ldA_atSPDd d => Sys2Proof.Machine.execLdA_atSPDd d s
  | .ldB_atSPd d => Sys2Proof.Machine.execLdB_atSPd d s
  | .ldC_atSPd d => Sys2Proof.Machine.execLdC_atSPd d s
  | .ldD_atSPd d => Sys2Proof.Machine.execLdD_atSPd d s
  | .ldA_atNN nn => Sys2Proof.Machine.execLdA_atNN nn s
  | .ldB_atNN nn => Sys2Proof.Machine.execLdB_atNN nn s
  | .ldC_atNN nn => Sys2Proof.Machine.execLdC_atNN nn s
  | .ldD_atNN nn => Sys2Proof.Machine.execLdD_atNN nn s
  | .ldAtDP_A => Sys2Proof.Machine.execLdAtDP_A s
  | .ldAtDP_B => Sys2Proof.Machine.execLdAtDP_B s
  | .ldAtDP_C => Sys2Proof.Machine.execLdAtDP_C s
  | .ldAtDP_D => Sys2Proof.Machine.execLdAtDP_D s
  | .ldAtDPd_A d => Sys2Proof.Machine.execLdAtDPd_A d s
  | .ldAtDPd_B d => Sys2Proof.Machine.execLdAtDPd_B d s
  | .ldAtDPDd_A d => Sys2Proof.Machine.execLdAtDPDd_A d s
  | .ldAtSPDd_A d => Sys2Proof.Machine.execLdAtSPDd_A d s
  | .ldAtSPd_B d => Sys2Proof.Machine.execLdAtSPd_B d s
  | .ldAtSPd_C d => Sys2Proof.Machine.execLdAtSPd_C d s
  | .ldAtSPd_D d => Sys2Proof.Machine.execLdAtSPd_D d s
  | .ldAtNN_A nn => Sys2Proof.Machine.execLdAtNN_A nn s
  | .ldAtNN_B nn => Sys2Proof.Machine.execLdAtNN_B nn s
  | .ldAtNN_C nn => Sys2Proof.Machine.execLdAtNN_C nn s
  | .ldAtNN_D nn => Sys2Proof.Machine.execLdAtNN_D nn s
  | .ldAtNN_n n nn => Sys2Proof.Machine.execLdAtNN_n n nn s
  | .ldAtDD_atSS ss dd => Sys2Proof.Machine.execLdAtDD_atSS ss dd s
  | .ldA_atCD => Sys2Proof.Machine.execLdA_atCD s
  | .ldAtCD_A => Sys2Proof.Machine.execLdAtCD_A s
  | .ldCD_atDP => Sys2Proof.Machine.execLdCD_atDP s
  | .ldAtDP_CD => Sys2Proof.Machine.execLdAtDP_CD s
  | .ldDP_AB => Sys2Proof.Machine.execLdDP_AB s
  | .ldDP_nn nn => Sys2Proof.Machine.execLdDP_nn nn s
  | .ldSP_nn nn => Sys2Proof.Machine.execLdSP_nn nn s
  | .ldDP_SPd d => Sys2Proof.Machine.execLdDP_SPd d s
  | .exAB_CD => Sys2Proof.Machine.execExAB_CD s
  | .exCD_DP => Sys2Proof.Machine.execExCD_DP s
  | .exDP_atNN nn => Sys2Proof.Machine.execExDP_atNN nn s
  | .pushA => Sys2Proof.Machine.execPushA s
  | .pushB => Sys2Proof.Machine.execPushB s
  | .pushF => Sys2Proof.Machine.execPushF s
  | .pushCD => Sys2Proof.Machine.execPushCD s
  | .pushDP => Sys2Proof.Machine.execPushDP s
  | .pushALL => Sys2Proof.Machine.execPushALL s
  | .push_n n => Sys2Proof.Machine.execPush_n n s
  | .pushAtNN nn => Sys2Proof.Machine.execPushAtNN nn s
  | .popA => Sys2Proof.Machine.execPopA s
  | .popB => Sys2Proof.Machine.execPopB s
  | .popF => Sys2Proof.Machine.execPopF s
  | .popCD => Sys2Proof.Machine.execPopCD s
  | .popDP => Sys2Proof.Machine.execPopDP s
  | .popALL => Sys2Proof.Machine.execPopALL s
  | .popAtNN nn => Sys2Proof.Machine.execPopAtNN nn s
  | .addA_B => Sys2Proof.Machine.execAddA_B s
  | .addA_C => Sys2Proof.Machine.execAddA_C s
  | .addA_D => Sys2Proof.Machine.execAddA_D s
  | .addA_n n => Sys2Proof.Machine.execAddA_n n s
  | .addB_n n => Sys2Proof.Machine.execAddB_n n s
  | .addC_n n => Sys2Proof.Machine.execAddC_n n s
  | .addD_n n => Sys2Proof.Machine.execAddD_n n s
  | .addcA_A => Sys2Proof.Machine.execAddcA_A s
  | .addcA_B => Sys2Proof.Machine.execAddcA_B s
  | .addcA_C => Sys2Proof.Machine.execAddcA_C s
  | .addcA_D => Sys2Proof.Machine.execAddcA_D s
  | .addcA_n n => Sys2Proof.Machine.execAddcA_n n s
  | .addcB_n n => Sys2Proof.Machine.execAddcB_n n s
  | .addcC_n n => Sys2Proof.Machine.execAddcC_n n s
  | .addcD_n n => Sys2Proof.Machine.execAddcD_n n s
  | .subA_B => Sys2Proof.Machine.execSubA_B s
  | .subA_C => Sys2Proof.Machine.execSubA_C s
  | .subA_D => Sys2Proof.Machine.execSubA_D s
  | .subA_n n => Sys2Proof.Machine.execSubA_n n s
  | .subB_n n => Sys2Proof.Machine.execSubB_n n s
  | .subC_n n => Sys2Proof.Machine.execSubC_n n s
  | .subD_n n => Sys2Proof.Machine.execSubD_n n s
  | .subbA_B => Sys2Proof.Machine.execSubbA_B s
  | .subbA_C => Sys2Proof.Machine.execSubbA_C s
  | .subbA_D => Sys2Proof.Machine.execSubbA_D s
  | .subbA_n n => Sys2Proof.Machine.execSubbA_n n s
  | .subbB_n n => Sys2Proof.Machine.execSubbB_n n s
  | .subbC_n n => Sys2Proof.Machine.execSubbC_n n s
  | .subbD_n n => Sys2Proof.Machine.execSubbD_n n s
  | .addA_atDP => Sys2Proof.Machine.execAddA_atDP s
  | .addcA_atDP => Sys2Proof.Machine.execAddcA_atDP s
  | .subA_atDP => Sys2Proof.Machine.execSubA_atDP s
  | .subbA_atDP => Sys2Proof.Machine.execSubbA_atDP s
  | .addAtDP_A => Sys2Proof.Machine.execAddAtDP_A s
  | .addcAtDP_A => Sys2Proof.Machine.execAddcAtDP_A s
  | .subAtDP_A => Sys2Proof.Machine.execSubAtDP_A s
  | .subbAtDP_A => Sys2Proof.Machine.execSubbAtDP_A s
  | .incA => Sys2Proof.Machine.execIncA s
  | .decA => Sys2Proof.Machine.execDecA s
  | .incAtDP => Sys2Proof.Machine.execIncAtDP s
  | .decAtDP => Sys2Proof.Machine.execDecAtDP s
  | .incAtNN nn => Sys2Proof.Machine.execIncAtNN nn s
  | .decAtNN nn => Sys2Proof.Machine.execDecAtNN nn s
  | .clrA => Sys2Proof.Machine.execClrA s
  | .cplA => Sys2Proof.Machine.execCplA s
  | .andA_B => Sys2Proof.Machine.execAndA_B s
  | .andA_C => Sys2Proof.Machine.execAndA_C s
  | .andA_D => Sys2Proof.Machine.execAndA_D s
  | .andA_n n => Sys2Proof.Machine.execAndA_n n s
  | .andB_n n => Sys2Proof.Machine.execAndB_n n s
  | .andC_n n => Sys2Proof.Machine.execAndC_n n s
  | .andD_n n => Sys2Proof.Machine.execAndD_n n s
  | .orA_B => Sys2Proof.Machine.execOrA_B s
  | .orA_C => Sys2Proof.Machine.execOrA_C s
  | .orA_D => Sys2Proof.Machine.execOrA_D s
  | .orA_n n => Sys2Proof.Machine.execOrA_n n s
  | .orB_n n => Sys2Proof.Machine.execOrB_n n s
  | .orC_n n => Sys2Proof.Machine.execOrC_n n s
  | .orD_n n => Sys2Proof.Machine.execOrD_n n s
  | .xorA_B => Sys2Proof.Machine.execXorA_B s
  | .xorA_C => Sys2Proof.Machine.execXorA_C s
  | .xorA_D => Sys2Proof.Machine.execXorA_D s
  | .xorA_n n => Sys2Proof.Machine.execXorA_n n s
  | .xorB_n n => Sys2Proof.Machine.execXorB_n n s
  | .xorC_n n => Sys2Proof.Machine.execXorC_n n s
  | .xorD_n n => Sys2Proof.Machine.execXorD_n n s
  | .cpA_C => Sys2Proof.Machine.execCpA_C s
  | .cpA_D => Sys2Proof.Machine.execCpA_D s
  | .mulAB => Sys2Proof.Machine.execMulAB s
  | .mulA_n n => Sys2Proof.Machine.execMulA_n n s
  | .mulAtDP_AB => Sys2Proof.Machine.execMulAtDP_AB s
  | .mulCD_AB => Sys2Proof.Machine.execMulCD_AB s
  | .mul16AB_C => Sys2Proof.Machine.execMul16AB_C s
  | .divA_B => Sys2Proof.Machine.execDivA_B s
  | .divA_n n => Sys2Proof.Machine.execDivA_n n s
  | .divAtDP_AB => Sys2Proof.Machine.execDivAtDP_AB s
  | .divCD_AB => Sys2Proof.Machine.execDivCD_AB s
  | .divnrA_B => Sys2Proof.Machine.execDivnrA_B s
  | .extA => Sys2Proof.Machine.execExtA s
  | .extdirA_oper oper => Sys2Proof.Machine.execExtdirA_oper oper s
  | .extAtDP_A => Sys2Proof.Machine.execExtAtDP_A s
  | .extCD_A => Sys2Proof.Machine.execExtCD_A s
  | .extdirlA_oper oper => Sys2Proof.Machine.execExtdirlA_oper oper s
  | .incDP => Sys2Proof.Machine.execIncDP s
  | .decDP => Sys2Proof.Machine.execDecDP s
  | .addDP_A => Sys2Proof.Machine.execAddDP_A s
  | .addDP_d d => Sys2Proof.Machine.execAddDP_d d s
  | .addCD_AB => Sys2Proof.Machine.execAddCD_AB s
  | .subCD_AB => Sys2Proof.Machine.execSubCD_AB s
  | .addSP_A => Sys2Proof.Machine.execAddSP_A s
  | .addSP_d d => Sys2Proof.Machine.execAddSP_d d s
  | .cpA_B => Sys2Proof.Machine.execCpA_B s
  | .cpA_n n => Sys2Proof.Machine.execCpA_n n s
  | .cpB_n n => Sys2Proof.Machine.execCpB_n n s
  | .cpC_n n => Sys2Proof.Machine.execCpC_n n s
  | .cpD_n n => Sys2Proof.Machine.execCpD_n n s
  | .cpA_atDP => Sys2Proof.Machine.execCpA_atDP s
  | .cpAtDP_n n => Sys2Proof.Machine.execCpAtDP_n n s
  | .testA_n n => Sys2Proof.Machine.execTestA_n n s
  | .ldC_atDPd d => Sys2Proof.Machine.execLdC_atDPd d s
  | .ldD_atDPd d => Sys2Proof.Machine.execLdD_atDPd d s
  | .ldAtDPd_C d => Sys2Proof.Machine.execLdAtDPd_C d s
  | .ldAtDPd_D d => Sys2Proof.Machine.execLdAtDPd_D d s
  | .ldA_atSPd d => Sys2Proof.Machine.execLdA_atSPd d s
  | .ldAtSPd_A d => Sys2Proof.Machine.execLdAtSPd_A d s
  | .ldCD_SP => Sys2Proof.Machine.execLdCD_SP s
  | .ldDP_CDd d => Sys2Proof.Machine.execLdDP_CDd d s
  | .addCD_nn nn => Sys2Proof.Machine.execAddCD_nn nn s
  | .subCD_nn nn => Sys2Proof.Machine.execSubCD_nn nn s
  | .addAtDP_n n => Sys2Proof.Machine.execAddAtDP_n n s
  | .addcAtDP_n n => Sys2Proof.Machine.execAddcAtDP_n n s
  | .subAtDP_n n => Sys2Proof.Machine.execSubAtDP_n n s
  | .subbAtDP_n n => Sys2Proof.Machine.execSubbAtDP_n n s
  | .andA_atDP => Sys2Proof.Machine.execAndA_atDP s
  | .andAtDP_A => Sys2Proof.Machine.execAndAtDP_A s
  | .andAtDP_n n => Sys2Proof.Machine.execAndAtDP_n n s
  | .orA_atDP => Sys2Proof.Machine.execOrA_atDP s
  | .orAtDP_A => Sys2Proof.Machine.execOrAtDP_A s
  | .orAtDP_n n => Sys2Proof.Machine.execOrAtDP_n n s
  | .xorA_atDP => Sys2Proof.Machine.execXorA_atDP s
  | .xorAtDP_A => Sys2Proof.Machine.execXorAtDP_A s
  | .xorAtDP_n n => Sys2Proof.Machine.execXorAtDP_n n s
  | .jp_nn nn => Sys2Proof.Machine.execJp_nn nn s
  | .jpC_nn nn => Sys2Proof.Machine.execJpC_nn nn s
  | .jpOV_nn nn => Sys2Proof.Machine.execJpOV_nn nn s
  | .jpZ_nn nn => Sys2Proof.Machine.execJpZ_nn nn s
  | .jpNEG_nn nn => Sys2Proof.Machine.execJpNEG_nn nn s
  | .jpPOS_nn nn => Sys2Proof.Machine.execJpPOS_nn nn s
  | .jpEQ_nn nn => Sys2Proof.Machine.execJpEQ_nn nn s
  | .jpLT_nn nn => Sys2Proof.Machine.execJpLT_nn nn s
  | .jpGT_nn nn => Sys2Proof.Machine.execJpGT_nn nn s
  | .jpDPd d => Sys2Proof.Machine.execJpDPd d s
  | .jr_d d => Sys2Proof.Machine.execJr_d d s
  | .jrC_d d => Sys2Proof.Machine.execJrC_d d s
  | .di => Sys2Proof.Machine.execDi s
  | .jrOV_d d => Sys2Proof.Machine.execJrOV_d d s
  | .jrZ_d d => Sys2Proof.Machine.execJrZ_d d s
  | .jrNEG_d d => Sys2Proof.Machine.execJrNEG_d d s
  | .jrPOS_d d => Sys2Proof.Machine.execJrPOS_d d s
  | .jrEQ_d d => Sys2Proof.Machine.execJrEQ_d d s
  | .jrLT_d d => Sys2Proof.Machine.execJrLT_d d s
  | .jrGT_d d => Sys2Proof.Machine.execJrGT_d d s
  | .jrNC_d d => Sys2Proof.Machine.execJrNC_d d s
  | .jrNOV_d d => Sys2Proof.Machine.execJrNOV_d d s
  | .jrNZ_d d => Sys2Proof.Machine.execJrNZ_d d s
  | .jrNNEG_d d => Sys2Proof.Machine.execJrNNEG_d d s
  | .jrNPOS_d d => Sys2Proof.Machine.execJrNPOS_d d s
  | .jrNEQ_d d => Sys2Proof.Machine.execJrNEQ_d d s
  | .jrNLT_d d => Sys2Proof.Machine.execJrNLT_d d s
  | .jrNGT_d d => Sys2Proof.Machine.execJrNGT_d d s
  | .ei => Sys2Proof.Machine.execEi s
  | .djnz_d d => Sys2Proof.Machine.execDjnz_d d s
  | .call_nn nn => Sys2Proof.Machine.execCall_nn nn s
  | .callr_d d => Sys2Proof.Machine.execCallr_d d s
  | .callDPd d => Sys2Proof.Machine.execCallDPd d s
  | .ret => Sys2Proof.Machine.execRet s
  | .reti => Sys2Proof.Machine.execReti s
  | .outAtS_A sel => Sys2Proof.Machine.execOutAtS_A sel s
  | .outAtS_B sel => Sys2Proof.Machine.execOutAtS_B sel s
  | .outAtS_C sel => Sys2Proof.Machine.execOutAtS_C sel s
  | .outAtS_D sel => Sys2Proof.Machine.execOutAtS_D sel s
  | .outAtS_n n sel => Sys2Proof.Machine.execOutAtS_n n sel s
  | .outAtS_atDP sel => Sys2Proof.Machine.execOutAtS_atDP sel s
  | .outiAtS_atDP sel => Sys2Proof.Machine.execOutiAtS_atDP sel s
  | .outdAtS_atDP sel => Sys2Proof.Machine.execOutdAtS_atDP sel s
  | .inA_atS sel => Sys2Proof.Machine.execInA_atS sel s
  | .inB_atS sel => Sys2Proof.Machine.execInB_atS sel s
  | .inC_atS sel => Sys2Proof.Machine.execInC_atS sel s
  | .inD_atS sel => Sys2Proof.Machine.execInD_atS sel s
  | .inAtDP_atS sel => Sys2Proof.Machine.execInAtDP_atS sel s
  | .iniAtDP_atS sel => Sys2Proof.Machine.execIniAtDP_atS sel s
  | .indAtDP_atS sel => Sys2Proof.Machine.execIndAtDP_atS sel s
  | .incioAtS sel => Sys2Proof.Machine.execIncioAtS sel s
  | .decioAtS sel => Sys2Proof.Machine.execDecioAtS sel s
  | .andioAtS_A sel => Sys2Proof.Machine.execAndioAtS_A sel s
  | .andioAtS_n sel n => Sys2Proof.Machine.execAndioAtS_n sel n s
  | .orioAtS_A sel => Sys2Proof.Machine.execOrioAtS_A sel s
  | .orioAtS_n sel n => Sys2Proof.Machine.execOrioAtS_n sel n s
  | .xorioAtS_A sel => Sys2Proof.Machine.execXorioAtS_A sel s
  | .xorioAtS_n sel n => Sys2Proof.Machine.execXorioAtS_n sel n s
  | .reset => Sys2Proof.Machine.execReset s

end Sys2Proof.Machine
end

