-- ==== Sys2Proof/Machine/Fetch.lean ====
section
/-! DEFINITION. Fetching an instruction (00_scope.md R11; 10_state.md R27; 30_encoding.md R71, R72). -/

namespace Sys2Proof.Machine

/-- `fetch8()`: the byte at PC is read by `MemRead` and PC steps by one, the full 16-bit increment (10_state.md R27,
decision D9: log 8). -/
def fetchByte (s : State) : Byte × State :=
  ((s.memRead s.pc).1, (s.memRead s.pc).2.setPc (s.pc + 1))

/-- A number of bytes fetched one after another. -/
def fetchBytes : Nat → State → List Byte × State
  | 0, s => ([], s)
  | k + 1, s => ((fetchByte s).1 :: (fetchBytes k (fetchByte s).2).1, (fetchBytes k (fetchByte s).2).2)

/-- The bytes of the instruction at PC: the opcode, then as many operand bytes as its format has (30_encoding.md R71,
R74), and the state after the fetch. -/
def fetchInstr (s : State) : List Byte × State :=
  ((fetchByte s).1 :: (fetchBytes (operandCount (fetchByte s).1) (fetchByte s).2).1,
    (fetchBytes (operandCount (fetchByte s).1) (fetchByte s).2).2)

end Sys2Proof.Machine
end

