-- ==== Sys2Proof/Machine/Step.lean ====
section
/-! DEFINITION. One step of the machine (60_exceptions.md R451), and the placing of an instruction where it fetches. -/

namespace Sys2Proof.Machine

/-- An outcome with its next state changed. -/
def mapNext (k : State → State) (o : Host.Outcome State Fault Refusal) : Host.Outcome State Fault Refusal :=
  match o with
  | .next s => .next (k s)
  | .fault r => .fault r
  | .refused r => .refused r

/-- The instruction at PC: all its bytes are fetched, then it is executed, then its clocks are counted (30_encoding.md
R71; 70_reset_and_hazards.md R490). -/
def runInstruction (s : State) : Host.Outcome State Fault Refusal :=
  match decode (fetchInstr s).1 with
  | .ok (i, _) => mapNext (fun t => t.addCycles (clocks i)) (exec i (fetchInstr s).2)
  | .error reason => .refused (.undecodable reason)

/-- One step: the boundary, then, unless an event replaced it, exactly one instruction (60_exceptions.md R451). -/
def step (s : State) : Host.Outcome State Fault Refusal :=
  match boundary s with
  | .taken t => .next t
  | .execute t => runInstruction t

/-- A byte placed in memory from outside; an address with no memory chip behind it becomes RAM (log 39). -/
def State.place (s : State) (a : Word) (v : Byte) : State :=
  match s.kindAt a with
  | .ram | .rom => s.store a v
  | .device | .unmapped => { s.store a v with memMap := ⟨a, a, .ram⟩ :: s.memMap }

/-- Bytes placed at rising addresses. -/
def State.placeBytes (s : State) (a : Word) : List Byte → State
  | [] => s
  | v :: rest => (s.place a v).placeBytes (a + 1) rest

/-- The state with an instruction placed where the next step fetches, and nothing presented at the boundary before it
(log 39). -/
def State.withFetchWord (s : State) (nbits w : Nat) : State :=
  let t := s.placeBytes s.pc (wordBytes nbits w)
  if t.inputs = [] then t else { t with inputs := .quiet :: t.inputs }

end Sys2Proof.Machine
end

