-- ==== Sys2Proof/Safety.lean ====
section
/-! DEFINITION. The terms in which statements about the machine speak: what one bus access delivers and changes, what an
ALU operation computes (in integers, not through the model's own ALU), which instructions write F, IE, NOSAMPLE, SP and DP,
and when a step executes an instruction. -/

namespace Sys2Proof.Machine

/-! ### Bus accesses -/

/-- `MemRead(ea, 1)` in `s` delivers `v` and leaves `t`: RAM and ROM give the stored byte and nothing changes; a device
or an unmapped address gives a byte of the environment and the access is recorded (20_memory.md R54, R57). -/
def ReadsByte (s : State) (ea : Word) (v : Byte) (t : State) : Prop :=
  match s.kindAt ea with
  | .ram | .rom => v = s.stored ea ∧ t = s
  | .device => v = Config.ioDevice s.busLog ea ∧ t = { s with busLog := ⟨.read, ea, v⟩ :: s.busLog }
  | .unmapped => v = Config.unmappedRead s.busLog ea ∧ t = { s with busLog := ⟨.read, ea, v⟩ :: s.busLog }

/-- `MemWrite(ea, 1, v)` in `s` leaves `t`: nothing but memory and the record of accesses differs, every address but
`ea` holds what it held, and `ea` holds what its kind makes of the write (20_memory.md R53, R55, R57). -/
def WritesByte (s : State) (ea : Word) (v : Byte) (t : State) : Prop :=
  t = { s with mem := t.mem, busLog := t.busLog } ∧
  (∀ x, x ≠ ea → t.stored x = s.stored x) ∧
  match s.kindAt ea with
  | .ram => t.stored ea = v ∧ t.busLog = s.busLog
  | .rom => t.stored ea = Config.romWrite s.busLog ea (s.stored ea) v ∧ t.busLog = ⟨.write, ea, v⟩ :: s.busLog
  | .device | .unmapped => t.stored ea = s.stored ea ∧ t.busLog = ⟨.write, ea, v⟩ :: s.busLog

/-- A two-byte read: low byte at `ea`, high byte at `padd(ea, 1)`, low byte first. -/
def ReadsWord (s : State) (ea w : Word) (t : State) : Prop :=
  ∃ lo hi u, ReadsByte s ea lo u ∧ ReadsByte u (padd ea 1) hi t ∧ w.toNat = hi.toNat * 256 + lo.toNat

/-- A two-byte write: low byte at `ea`, high byte at `padd(ea, 1)`, low byte first. -/
def WritesWord (s : State) (ea w : Word) (t : State) : Prop :=
  ∃ lo hi u, w.toNat = hi.toNat * 256 + lo.toNat ∧ WritesByte s ea lo u ∧ WritesByte u (padd ea 1) hi t

/-- `push8(v)` (41_stack.md R356). -/
def Pushes (s : State) (v : Byte) (t : State) : Prop :=
  WritesByte { s with sp := padd s.sp 0xFFFF } (padd s.sp 0xFFFF) v t

/-- `pop8()` (41_stack.md R357). -/
def Pops (s : State) (v : Byte) (t : State) : Prop :=
  ∃ u, ReadsByte s s.sp v u ∧ t = { u with sp := padd s.sp 1 }

/-- A 16-bit push, high byte first (41_stack.md R358). -/
def PushesWord (s : State) (w : Word) (t : State) : Prop :=
  ∃ lo hi u, w.toNat = hi.toNat * 256 + lo.toNat ∧ Pushes s hi u ∧ Pushes u lo t

/-- A 16-bit pop, low byte first (41_stack.md R358). -/
def PopsWord (s : State) (w : Word) (t : State) : Prop :=
  ∃ lo hi u, Pops s lo u ∧ Pops u hi t ∧ w.toNat = hi.toNat * 256 + lo.toNat

/-- The bytes fetched one after another from PC, each by a read, PC stepping by one modulo 65536 (30_encoding.md R72). -/
def FetchesBytes : State → List Byte → State → Prop
  | s, [], t => t = s
  | s, v :: rest, t => ∃ u, ReadsByte s s.pc v u ∧ FetchesBytes { u with pc := s.pc + 1 } rest t

/-! ### The ALU, in integers -/

/-- The eight flags of a flag byte, given the carry, the overflow, the result and the two unsigned inputs (42_alu8.md
R362 to R366). -/
structure FlagsAre (f : Byte) (carry overflow : Prop) (r : Byte) (arg1 arg2 : Nat) : Prop where
  c : flagOf f .C = true ↔ carry
  ov : flagOf f .OV = true ↔ overflow
  z : flagOf f .Z = true ↔ r.toNat = 0
  neg : flagOf f .NEG = true ↔ 128 ≤ r.toNat
  pos : flagOf f .POS = true ↔ 1 ≤ r.toNat ∧ r.toNat ≤ 127
  eq : flagOf f .EQ = true ↔ arg1 = arg2
  lt : flagOf f .LT = true ↔ arg1 < arg2
  gt : flagOf f .GT = true ↔ arg2 < arg1

/-- The result and the flags of an 8-bit ALU operation (42_alu8.md R361 to R367). -/
def AluDoes (op : AluOp) (arg1 x : Byte) (cin : Bool) (r f : Byte) : Prop :=
  match op with
  | .ADD =>
    r.toNat = (arg1.toNat + x.toNat + cin.toNat) % 256 ∧
    FlagsAre f (255 < arg1.toNat + x.toNat + cin.toNat)
      (arg1.toInt + x.toInt + cin.toNat < -128 ∨ 127 < arg1.toInt + x.toInt + cin.toNat) r arg1.toNat
      (x.toNat + cin.toNat)
  | .SUB =>
    (r.toNat : Int) = ((arg1.toNat : Int) - x.toNat - cin.toNat) % 256 ∧
    FlagsAre f (arg1.toNat < x.toNat + cin.toNat)
      (arg1.toInt - x.toInt - cin.toNat < -128 ∨ 127 < arg1.toInt - x.toInt - cin.toNat) r arg1.toNat
      (x.toNat + cin.toNat)
  | .AND => (∀ k, r.getLsbD k = (arg1.getLsbD k && x.getLsbD k)) ∧ FlagsAre f False False r arg1.toNat (x.toNat + cin.toNat)
  | .OR => (∀ k, r.getLsbD k = (arg1.getLsbD k || x.getLsbD k)) ∧ FlagsAre f False False r arg1.toNat (x.toNat + cin.toNat)
  | .XOR => (∀ k, r.getLsbD k = (arg1.getLsbD k ^^ x.getLsbD k)) ∧ FlagsAre f False False r arg1.toNat (x.toNat + cin.toNat)

/-! ### What an instruction does, by shape -/

/-- The instruction loads one byte from `ea` into `r` and does nothing else. -/
def Loads (i : Instr) (r : Reg) (s : State) (ea : Word) : Prop :=
  ∃ v t, ReadsByte s ea v t ∧ exec i s = .next (t.setReg r v)

/-- The instruction writes the byte `v` at `ea` and does nothing else. -/
def Stores (i : Instr) (s : State) (ea : Word) (v : Byte) : Prop :=
  ∃ t, WritesByte s ea v t ∧ exec i s = .next t

/-- The instruction writes the 16-bit value `w` at `ea` and does nothing else. -/
def StoresWord (i : Instr) (s : State) (ea w : Word) : Prop :=
  ∃ t, WritesWord s ea w t ∧ exec i s = .next t

/-- The instruction reads the byte at `source`, then writes it at `destination`, then replaces DP by `dp`, and does
nothing else. -/
def Copies (i : Instr) (s : State) (source destination dp : Word) : Prop :=
  ∃ v t u, ReadsByte s source v t ∧ WritesByte t destination v u ∧ exec i s = .next { u with dp := dp }

/-- The instruction replaces `r` by the result of the operation on `r` and `x`, F by its flags, and does nothing else. -/
def AluInto (i : Instr) (op : AluOp) (r : Reg) (x : Byte) (cin : Bool) (s : State) : Prop :=
  ∃ v f, AluDoes op (s.reg r) x cin v f ∧ exec i s = .next { s.setReg r v with f := f }

/-- The instruction reads a byte at `ea`, replaces A by the result of the operation on A and that byte, F by its flags,
and does nothing else. -/
def AluFrom (i : Instr) (op : AluOp) (ea : Word) (cin : Bool) (s : State) : Prop :=
  ∃ m t v f, ReadsByte s ea m t ∧ AluDoes op s.a m cin v f ∧ exec i s = .next { t with a := v, f := f }

/-- The instruction reads a byte at `ea`, writes the result of the operation on that byte and `x` back, replaces F by its
flags, and does nothing else. -/
def AluOnto (i : Instr) (op : AluOp) (ea : Word) (x : Byte) (cin : Bool) (s : State) : Prop :=
  ∃ m t u v f, ReadsByte s ea m t ∧ AluDoes op m x cin v f ∧ WritesByte t ea v u ∧ exec i s = .next { u with f := f }

/-- As `AluOnto`, with A as the first input and the byte read as the second (47_io.md R523). -/
def AluOntoFromA (i : Instr) (op : AluOp) (ea : Word) (s : State) : Prop :=
  ∃ m t u v f, ReadsByte s ea m t ∧ AluDoes op s.a m false v f ∧ WritesByte t ea v u ∧ exec i s = .next { u with f := f }

/-- The instruction replaces F by the flags of the operation, discards the result, and does nothing else. -/
def AluFlagsOnly (i : Instr) (op : AluOp) (arg1 x : Byte) (s : State) : Prop :=
  ∃ v f, AluDoes op arg1 x false v f ∧ exec i s = .next { s with f := f }

/-- The instruction goes to `target` if the condition holds, else on to the next instruction, and does nothing else. -/
def JumpsIf (i : Instr) (condition : Prop) (target : Word) (s : State) : Prop :=
  (condition → exec i s = .next { s with pc := target }) ∧ (¬ condition → exec i s = .next s)

/-- The instruction pushes PC, loads it with `target`, and does nothing else. -/
def CallsTo (i : Instr) (s : State) (target : Word) : Prop :=
  ∃ t, PushesWord s s.pc t ∧ exec i s = .next { t with pc := target }

/-! ### Which instructions write what -/

/-- The opcode byte of an instruction. -/
def opcodeOf (i : Instr) : Byte := (encode i).headD 0

/-- The opcodes whose Flags column says "Yes" because of an ALU operation (10_state.md R32; 42_alu8.md R368). -/
def aluFlagOpcodes : List (Nat × Nat) :=
  [(0x4B, 0x75), (0x77, 0x8E), (0xA2, 0xA3), (0xA6, 0xAD), (0xB6, 0xC4), (0xF7, 0xFE)]

/-- An instruction that writes F by an ALU operation. -/
def writesFlags (i : Instr) : Bool := inRanges aluFlagOpcodes (opcodeOf i).toNat

/-- An instruction that writes F at all: also `POP F`, `POP ALL`, `RESET` (10_state.md R32). -/
def writesF (i : Instr) : Bool := writesFlags i || inRanges [(0x46, 0x46), (0x49, 0x49), (0xFF, 0xFF)] (opcodeOf i).toNat

/-- An instruction that writes PC beyond the fetch increments (10_state.md R26). -/
def writesPc (i : Instr) : Bool :=
  inRanges [(0xC5, 0xD0), (0xD2, 0xE0), (0xE2, 0xE7), (0xFF, 0xFF)] (opcodeOf i).toNat

/-- An instruction that writes IE (10_state.md R34): `DI`, `EI`, `RETI`, `RESET`. -/
def writesIe (i : Instr) : Bool := inRanges [(0xD1, 0xD1), (0xE1, 0xE1), (0xE7, 0xE7), (0xFF, 0xFF)] (opcodeOf i).toNat

/-- An instruction that loads SP with a complete 16-bit value (10_state.md R28): `LD SP, nn`, `RESET`. -/
def loadsSp (i : Instr) : Bool := inRanges [(0x37, 0x37), (0xFF, 0xFF)] (opcodeOf i).toNat

/-- An instruction that loads DP with a complete 16-bit value or with a sum formed from SP or CD (10_state.md R29):
`LD DP, AB`, `LD DP, nn`, `LD DP, SP + d`, `EX CD, DP`, `EX DP, (nn)`, `POP DP`, `POP ALL`, `LD DP, CD + d`, `RESET`. -/
def loadsDp (i : Instr) : Bool :=
  inRanges [(0x35, 0x36), (0x38, 0x38), (0x3A, 0x3B), (0x48, 0x49), (0xB5, 0xB5), (0xFF, 0xFF)] (opcodeOf i).toNat

/-! ### When a step executes an instruction -/

/-- The boundary of `s` leads to the execution of the instruction at PC: no reset, and no interrupt that is sampled and
enabled (60_exceptions.md R451). -/
def ExecutesInstruction (s : State) : Prop :=
  s.input = .quiet ∨ ∃ p, s.input = .interrupt p ∧ (s.noSample = true ∨ s.ie = false)

/-- The boundary of `s` leads to the interrupt response with pointer `p` (60_exceptions.md R451, R453). -/
def TakesInterrupt (s : State) (p : Byte) : Prop :=
  s.input = .interrupt p ∧ s.noSample = false ∧ s.ie = true

/-- The state after a boundary that leads to the execution of an instruction: the environment's entry is consumed and
NOSAMPLE is clear. -/
def afterBoundary (s : State) : State := { s with inputs := s.inputs.tail, noSample := false }

/-- The stack bytes from `lowest` on, `count` of them upwards inside the page, are RAM. -/
def StackIsRam (s : State) (lowest : Word) : Nat → Prop
  | 0 => True
  | k + 1 => s.kindAt lowest = .ram ∧ StackIsRam s (padd lowest 1) k

end Sys2Proof.Machine
end

