-- ==== Sys2Proof/Certificates/Slice0/Obligations.lean ====
section
/-! DEFINITION. The statements for the provers. Each docstring says in words what the statement says, and which of its parts
rest on a decision of the spec or on a choice of the model. -/

open Sys2Proof Sys2Proof.Machine

/-- O1. Decoding the bytes of an instruction gives the instruction back: For every instruction i with every operand
value, and whatever bytes follow, decode of encode i followed by those bytes is i and those bytes. -/
def Obligations.DecodeEncode : Prop :=
  ∀ (i : Instr) (rest : List Byte), decode (encode i ++ rest) = .ok (i, rest)

/-- O2. Every byte string has one meaning: If the decoder reads the instruction i from a byte string and leaves rest,
the byte string is encode i followed by rest: no bit of an instruction is dropped. -/
def Obligations.EncodeDecode : Prop :=
  ∀ (bytes rest : List Byte) (i : Instr), decode bytes = .ok (i, rest) → bytes = encode i ++ rest

/-- O3. Decoding is total: every opcode with its operand bytes is an instruction: For every opcode byte and every list
of following bytes: if there are as many bytes as the format that 30_encoding.md R80 lists for the opcode has, the
decoder answers an instruction of that opcode and of that length; if there are fewer, it answers that the opcode is
truncated. -/
def Obligations.DecodeTotal : Prop :=
  ∀ (opcode : Byte) (operands : List Byte),
    ((formatOf opcode).length ≤ operands.length + 1 →
      ∃ i rest, decode (opcode :: operands) = .ok (i, rest) ∧ opcodeOf i = opcode ∧
        (encode i).length = (formatOf opcode).length) ∧
    (operands.length + 1 < (formatOf opcode).length → decode (opcode :: operands) = .error (.truncated opcode))

/-- O4. Words written out from the encoding table decode to their instructions: The bytes 0D 7F, 2F 55 00 20, 30 34 12
78 56, C5 34 12, EC 5A 10, 4B, 93, 9A BD, 41 and A1 FE decode to LD A, n; LD (nn), n; LD (dd), (ss); JP nn; OUT (s),
n; ADD A, B; MUL16 AB, C; EXTDIR A, oper; PUSH ALL and ADD DP, d with the operands read from those bytes. -/
def Obligations.SampleEncodings : Prop :=
  decode [0x0D, 0x7F] = .ok (.ldA_n 0x7F, []) ∧
    decode [0x2F, 0x55, 0x00, 0x20] = .ok (.ldAtNN_n 0x55 0x2000, []) ∧
    decode [0x30, 0x34, 0x12, 0x78, 0x56] = .ok (.ldAtDD_atSS 0x1234 0x5678, []) ∧
    decode [0xC5, 0x34, 0x12] = .ok (.jp_nn 0x1234, []) ∧
    decode [0xEC, 0x5A, 0x10] = .ok (.outAtS_n 0x5A 0x10, []) ∧
    decode [0x4B] = .ok (.addA_B, []) ∧
    decode [0x93] = .ok (.mul16AB_C, []) ∧
    decode [0x9A, 0xBD] = .ok (.extdirA_oper 0xBD, []) ∧
    decode [0x41] = .ok (.pushALL, []) ∧
    decode [0xA1, 0xFE] = .ok (.addDP_d 0xFE, [])

/-- O5. A step runs the instruction whose bytes lie at PC: If the boundary leads to an instruction (no reset, no
interrupt that is sampled and enabled), and the bytes fetched from PC on, each by a read of whatever is there, are
those of the instruction i, then the step is exec of i at the state after the fetch, with the clocks of i added to the
cycle counter of the next state; the boundary has consumed the environment's entry and cleared NOSAMPLE. PC steps by a
full 16-bit increment (the spec's decision D9, log 8); the cycle counter is the model's (log 31). -/
def Obligations.StepRunsDecodedInstruction : Prop :=
  ∀ (s t : State) (i : Instr), ExecutesInstruction s → i.wellFormed = true →
    FetchesBytes (afterBoundary s) (encode i) t →
    step s = mapNext (fun u => { u with cycles := u.cycles + clocks i }) (exec i t)

/-- O6. A step runs the instruction stored in RAM or ROM at PC, and fetching changes nothing else: If the boundary
leads to an instruction and the bytes of i are stored from PC on (addresses modulo 65536) in RAM or ROM, then the step
is exec of i at the state with PC moved past the bytes, with the clocks of i added to the cycle counter. PC steps by a
full 16-bit increment (decision D9, log 8); the cycle counter is the model's (log 31). -/
def Obligations.StepRunsInstructionInMemory : Prop :=
  ∀ (s : State) (i : Instr), ExecutesInstruction s →
    (∀ k, (h : k < (encode i).length) →
      (s.kindAt (s.pc + BitVec.ofNat 16 k) = .ram ∨ s.kindAt (s.pc + BitVec.ofNat 16 k) = .rom) ∧
      s.stored (s.pc + BitVec.ofNat 16 k) = (encode i)[k]) →
    step s = mapNext (fun u => { u with cycles := u.cycles + clocks i })
      (exec i { afterBoundary s with pc := s.pc + BitVec.ofNat 16 (encode i).length })

/-- O7. The machine never stops: every step of every state answers a next state: From every state, whatever memory
holds and whatever the environment presents, the step answers a next state: no fault and no refusal. That an interrupt
with a pointer byte of 128 to 255 gives a next state too is the model's choice (log 34): R457 and U4 of
93_implementation_defined.md let a model refuse such a pointer, or, where it must be total, take the vector address as
a parameter, which the model does. -/
def Obligations.StepNeverStops : Prop :=
  ∀ s : State, ∃ t, step s = .next t

/-- O8. Every step keeps the canonical form of memory: If the listed bytes of memory have strictly rising addresses
below 65536, they still have after any step: one byte per address, none outside the 64 KiB. The form is the model's
own way of holding the 65536 bytes (log 43). -/
def Obligations.MemoryFormKept : Prop :=
  ∀ s t : State, s.mem.wf = true → step s = .next t → t.mem.wf = true

/-- O9. The memory of the reset state has the canonical form: The memory of State.reset has the canonical form (the
model's, log 43). -/
def Obligations.MemoryFormAtReset : Prop :=
  State.reset.mem.wf = true

/-- O10. What a step may do to the environment's part of the state: Every step keeps the memory map, consumes exactly
one entry of the environment's list, and only adds accesses to the record, latest first. The map, the list and the
record are the model's plain data for MEM_MAP, INT_SOURCE and IO_DEVICE (log 20, 23, 33). -/
def Obligations.EnvironmentKept : Prop :=
  ∀ s t : State, step s = .next t →
    t.memMap = s.memMap ∧ t.inputs = s.inputs.tail ∧ ∃ added, t.busLog = added ++ s.busLog

/-- O11. Every step counts the clocks of what it did: A step that executes an instruction adds the clocks of the
instruction i whose bytes are fetched from PC on (the i of O5, which these bytes determine), 2 to 21; an interrupt
response adds 14; an external reset adds the free value resetClocks. The counter is the model's (log 31, decision
D31); PC steps by a full 16-bit increment in the fetch (decision D9, log 8). -/
def Obligations.CyclesCounted : Prop :=
  ∀ s t : State, step s = .next t →
    (ExecutesInstruction s → ∃ i u, FetchesBytes (afterBoundary s) (encode i) u ∧ t.cycles = s.cycles + clocks i ∧
      2 ≤ clocks i ∧ clocks i ≤ 21) ∧
    (∀ p, TakesInterrupt s p → t.cycles = s.cycles + 14) ∧
    (s.input = .reset → t.cycles = s.cycles + Config.resetClocks)

/-- O12. SP and DP leave their 16 KiB page only by a load of a new value: Every instruction other than LD SP, nn and
RESET leaves bits 15:14 of SP as they were; every instruction other than the loads and exchanges of DP (LD DP in its
four forms, EX CD, DP, EX DP, (nn), POP DP, POP ALL) and RESET leaves bits 15:14 of DP as they were. That the stack
and pointer steps are confined is the spec's decision D8 (log 7). -/
def Obligations.PagesKept : Prop :=
  ∀ (i : Instr) (s t : State), exec i s = .next t →
    (loadsSp i = false → pageOf t.sp = pageOf s.sp) ∧ (loadsDp i = false → pageOf t.dp = pageOf s.dp)

/-- O13. Only the instructions of the Flags column, POP F, POP ALL and RESET write F: Every other instruction leaves
all eight bits of F as they were. That POP F and POP ALL load F although their Flags column says No is the spec's
resolution C9 (log 45). -/
def Obligations.FlagWriters : Prop :=
  ∀ (i : Instr) (s t : State), exec i s = .next t → writesF i = false → t.f = s.f

/-- O14. After an ALU instruction exactly one sign flag and exactly one comparison flag is set: After every
instruction whose Flags column says Yes because of an ALU operation, exactly one of Z, NEG, POS and exactly one of EQ,
LT, GT is 1 (readings D3, D4, D6 of the spec; log 3, 5). -/
def Obligations.FlagsOneHot : Prop :=
  ∀ (i : Instr) (s t : State), exec i s = .next t → writesFlags i = true →
    ([Flag.Z, .NEG, .POS].countP fun x => t.flag x) = 1 ∧ ([Flag.EQ, .LT, .GT].countP fun x => t.flag x) = 1

/-- O15. Only DI, EI, RETI and RESET write IE, and no other instruction touches NOSAMPLE: Every other instruction
leaves IE and NOSAMPLE as they were. -/
def Obligations.InterruptEnableWriters : Prop :=
  ∀ (i : Instr) (s t : State), exec i s = .next t → writesIe i = false → t.ie = s.ie ∧ t.noSample = s.noSample

/-- O16. Only jumps, calls, returns and RESET write PC beyond the fetch: Every instruction other than the jumps, DJNZ,
the calls, the returns and RESET leaves PC at the address of the next instruction, where the fetch left it. -/
def Obligations.ProgramCounterWriters : Prop :=
  ∀ (i : Instr) (s t : State), exec i s = .next t → writesPc i = false → t.pc = s.pc

/-- O17. The interrupt response: what it saves, where it goes, what it changes: When INT is sampled as 1 with pointer
p, IE is set and NOSAMPLE is clear, the step pushes PC (high byte first), reads the new PC from the vector address,
low byte first and then the next address, clears IE, counts 14 clocks, and changes nothing else: F, A, B, C, D and DP
stay. The vector address is 2p for p up to 127; for a larger p it is the free value INT_PTR_HIGH of p (log 34). The
gating by IE, the byte order of the push and the order of the vector read are the spec's decisions D25, D26, D24 (log
26, 27, 25). -/
def Obligations.InterruptTaken : Prop :=
  ∀ (s : State) (p : Byte), TakesInterrupt s p → ∃ (v : Word) (lo hi : Byte) (t u w : State),
    (p.toNat < 128 → v.toNat = 2 * p.toNat) ∧ (128 ≤ p.toNat → v = Config.vectorHigh p) ∧
    PushesWord { s with inputs := s.inputs.tail } s.pc t ∧ ReadsByte t v lo u ∧ ReadsByte u (v + 1) hi w ∧
    step s = .next { w with pc := join16 hi lo, ie := false, cycles := s.cycles + 14 }

/-- O18. After RETI one instruction runs before INT is looked at: RETI leaves IE and NOSAMPLE set; at the boundary
that follows, whatever pointer p is presented with INT = 1, the instruction at PC is executed, with NOSAMPLE cleared.
From every state with IE set and NOSAMPLE clear (the state after that instruction is one, if the instruction leaves IE
set and is no RETI) an INT of 1 with any pointer q is served: the boundary, and so the step, answers the interrupt
response of q, with 14 clocks counted, instead of an instruction. If the instruction after RETI leaves IE set and
NOSAMPLE clear and INT is 1 again, the next step is that response. What the response does is said in O17. The gating
by IE is the spec's decision D25 (log 26); that a pointer of 128 to 255 has a response too (log 34), the environment's
list and the counter (log 33, 31) are the model's choice. -/
def Obligations.ReturnGrace : Prop :=
  let response (q : Byte) (u : State) : State :=
    { interruptResponse q { u with inputs := u.inputs.tail } with cycles := u.cycles + 14 }
  (∀ (s t : State) (p : Byte) (later : List Input), exec .reti s = .next t →
    t.ie = true ∧ t.noSample = true ∧
    boundary { t with inputs := .interrupt p :: later } = .execute { t with inputs := later, noSample := false } ∧
    TakesInterrupt { t with inputs := .interrupt p :: later, noSample := false } p ∧
    ∀ (u : State) (q : Byte) (rest : List Input), later = .interrupt q :: rest →
      step { t with inputs := .interrupt p :: later } = .next u → u.ie = true → u.noSample = false →
      step u = .next (response q u)) ∧
  ∀ (u : State) (q : Byte) (rest : List Input), u.inputs = .interrupt q :: rest → u.ie = true → u.noSample = false →
    boundary u = .taken (response q u) ∧ step u = .next (response q u)

/-- O19. RESET and the reset input load every register with its reset value and leave memory: The instruction RESET
answers the state with A to D 0, F 0x24, PC 0, SP 0xFFFF, DP 0x8080, IE 0 and NOSAMPLE 0, and memory and the
environment's data as they were (NOSAMPLE by the spec's decision D34, log 35). When the environment presents a reset,
the step does the same instead of an instruction, consumes one entry and adds the free value resetClocks to the cycle
counter: that it replaces the step and wins over everything is the spec's decision D27 (log 28); the counter is the
model's (log 31). -/
def Obligations.ResetSequence : Prop :=
  (∀ s : State, exec .reset s = .next
      { s with a := 0, b := 0, c := 0, d := 0, f := 0x24, pc := 0, sp := 0xFFFF, dp := 0x8080, ie := false,
               noSample := false }) ∧
    ∀ s : State, s.input = .reset → step s = .next
      { s with a := 0, b := 0, c := 0, d := 0, f := 0x24, pc := 0, sp := 0xFFFF, dp := 0x8080, ie := false,
               noSample := false, inputs := s.inputs.tail, cycles := s.cycles + Config.resetClocks }

/-- O20. The reset state holds the values the spec states: In State.reset A, B, C and D are 0, F is 0x24 with exactly
Z and EQ set, SP is 0xFFFF, DP is 0x8080, PC is 0x0000, IE is 0 and NOSAMPLE is 0 (NOSAMPLE by the spec's decision
D27, log 28). -/
def Obligations.ResetState : Prop :=
  State.reset.a = 0 ∧ State.reset.b = 0 ∧ State.reset.c = 0 ∧ State.reset.d = 0 ∧ State.reset.f = 0x24 ∧
    (∀ x : Flag, State.reset.flag x = true ↔ x = .Z ∨ x = .EQ) ∧
    State.reset.sp = 0xFFFF ∧ State.reset.dp = 0x8080 ∧ State.reset.pc = 0x0000 ∧
    State.reset.ie = false ∧ State.reset.noSample = false

/-- O21. RETI undoes the interrupt response: the interrupted program goes on where it was: If an interrupt is taken
and the two bytes below SP (inside its page) are RAM, then executing RETI from a state whose SP, memory and memory map
are those the response left answers a next state in which PC and SP are what they were before the interrupt, IE and
NOSAMPLE are set, and nothing else differs from the state RETI started in; so whatever the handler did to the
registers, the return finds the saved PC. The page-confined stack steps are the spec's decision D8 (log 7). -/
def Obligations.InterruptThenReturn : Prop :=
  ∀ (s t u : State) (p : Byte), TakesInterrupt s p → StackIsRam s (padd s.sp 0xFFFE) 2 → step s = .next t →
    u.sp = t.sp → u.mem = t.mem → u.memMap = t.memMap →
    exec .reti u = .next { u with pc := s.pc, sp := s.sp, ie := true, noSample := true }

/-- O22. RET undoes CALL: PC is the address after the call and SP is what it was: If the two bytes below SP (inside
its page) are RAM, then after CALL nn a RET answers the state before the call but for the two stack bytes in memory:
PC is again the address of the instruction after the call, SP is as before, and every address outside those two bytes
holds what it held. Decisions D36 (log 37) and D8 (log 7) of the spec. -/
def Obligations.CallThenReturn : Prop :=
  ∀ (s : State) (nn : Word), StackIsRam s (padd s.sp 0xFFFE) 2 →
    ∃ t u, exec (.call_nn nn) s = .next t ∧ t.pc = nn ∧ exec .ret t = .next u ∧ u = { s with mem := u.mem } ∧
      ∀ x, x ≠ padd s.sp 0xFFFF → x ≠ padd s.sp 0xFFFE → u.stored x = s.stored x

/-- O23. POP ALL restores what PUSH ALL saved, whatever happened to the registers in between: If the seven bytes below
SP (inside its page) are RAM, then after PUSH ALL, POP ALL from any state with the same SP, memory and memory map as
PUSH ALL left puts back A, B, F, C, D, DP and SP as they were before PUSH ALL and changes nothing else of that state.
Decision D8 of the spec (log 7). -/
def Obligations.PopAllUndoesPushAll : Prop :=
  ∀ s t u : State, StackIsRam s (padd s.sp 0xFFF9) 7 → exec .pushALL s = .next t →
    u.sp = t.sp → u.mem = t.mem → u.memMap = t.memMap →
    exec .popALL u = .next { u with a := s.a, b := s.b, f := s.f, c := s.c, d := s.d, dp := s.dp, sp := s.sp }

/-- O24. padd adds in the low 14 bits and keeps the two top bits of the base: padd(r, k) is (r & 0xC000) | ((r + k) &
0x3FFF) with the sum modulo 65536: bits 15:14 are those of r and the low 14 bits are the sum modulo 16384; the
manual's three examples come out as printed. -/
def Obligations.PageConfinedAdd : Prop :=
  (∀ r k : Word, padd r k = (r &&& 0xC000) ||| ((r + k) &&& 0x3FFF) ∧
      (padd r k).toNat / 16384 = r.toNat / 16384 ∧ (padd r k).toNat % 16384 = (r.toNat + k.toNat) % 16384) ∧
    padd 0x4000 (BitVec.ofInt 16 (-10)) = 0x7FF6 ∧ padd 0x7FF0 20 = 0x4004 ∧ padd 0x3FFA 0x10 = 0x000A

/-- O25. Displacements, byte order, I/O addresses and register writes: sext16 keeps the signed value of a byte; IO(s)
is 0x8000 + s; lo8, hi8 and join16 are the low byte, the high byte and 256 * high + low; the pairs AB and CD have A
and C as low bytes; writing a working register changes that register and nothing else. -/
def Obligations.SmallOperations : Prop :=
  (∀ v : Byte, (sext16 v).toInt = v.toInt) ∧ (∀ sel : Byte, (ioAddress sel).toNat = 0x8000 + sel.toNat) ∧
    (∀ w : Word, (lo8 w).toNat = w.toNat % 256 ∧ (hi8 w).toNat = w.toNat / 256) ∧
    (∀ hi lo : Byte, (join16 hi lo).toNat = hi.toNat * 256 + lo.toNat) ∧
    (∀ s : State, s.ab.toNat = s.b.toNat * 256 + s.a.toNat ∧ s.cd.toNat = s.d.toNat * 256 + s.c.toNat) ∧
    (∀ (s : State) (v : Byte), s.setReg .A v = { s with a := v } ∧ s.setReg .B v = { s with b := v } ∧
      s.setReg .C v = { s with c := v } ∧ s.setReg .D v = { s with d := v }) ∧
    (∀ s : State, s.reg .A = s.a ∧ s.reg .B = s.b ∧ s.reg .C = s.c ∧ s.reg .D = s.d)

/-- O26. LD r, r' and LD r, n: Each of the twelve register copies and the four immediate loads answers the state with
the destination register replaced by the source, and changes nothing else. -/
def Obligations.LoadRegister : Prop :=
  ∀ (s : State) (n : Byte),
    exec .ldA_B s = .next { s with a := s.b } ∧
    exec .ldA_C s = .next { s with a := s.c } ∧
    exec .ldA_D s = .next { s with a := s.d } ∧
    exec .ldB_A s = .next { s with b := s.a } ∧
    exec .ldB_C s = .next { s with b := s.c } ∧
    exec .ldB_D s = .next { s with b := s.d } ∧
    exec .ldC_A s = .next { s with c := s.a } ∧
    exec .ldC_B s = .next { s with c := s.b } ∧
    exec .ldC_D s = .next { s with c := s.d } ∧
    exec .ldD_A s = .next { s with d := s.a } ∧
    exec .ldD_B s = .next { s with d := s.b } ∧
    exec .ldD_C s = .next { s with d := s.c } ∧
    exec (.ldA_n n) s = .next { s with a := n } ∧
    exec (.ldB_n n) s = .next { s with b := n } ∧
    exec (.ldC_n n) s = .next { s with c := n } ∧
    exec (.ldD_n n) s = .next { s with d := n }

/-- O27. LD r from memory, in every addressing form: Each load answers the state after one read at the address of its
operand form, with the destination register replaced by the byte read, and changes nothing else; the read is that of
whatever is at the address (RAM, ROM, device, nothing). The sum D + d is formed first (the spec's decision D10, log
9). -/
def Obligations.LoadFromMemory : Prop :=
  ∀ (s : State) (d : Byte) (nn : Word),
    Loads .ldA_atDP .A s s.dp ∧
    Loads .ldB_atDP .B s s.dp ∧
    Loads .ldC_atDP .C s s.dp ∧
    Loads .ldD_atDP .D s s.dp ∧
    Loads (.ldA_atDPd d) .A s (padd s.dp (sext16 d)) ∧
    Loads (.ldB_atDPd d) .B s (padd s.dp (sext16 d)) ∧
    Loads (.ldA_atDPDd d) .A s (padd s.dp (sext16 s.d + sext16 d)) ∧
    Loads (.ldA_atSPDd d) .A s (padd s.sp (sext16 s.d + sext16 d)) ∧
    Loads (.ldB_atSPd d) .B s (padd s.sp (sext16 d)) ∧
    Loads (.ldC_atSPd d) .C s (padd s.sp (sext16 d)) ∧
    Loads (.ldD_atSPd d) .D s (padd s.sp (sext16 d)) ∧
    Loads (.ldA_atNN nn) .A s nn ∧
    Loads (.ldB_atNN nn) .B s nn ∧
    Loads (.ldC_atNN nn) .C s nn ∧
    Loads (.ldD_atNN nn) .D s nn ∧
    Loads (.ldC_atDPd d) .C s (padd s.dp (sext16 d)) ∧
    Loads (.ldD_atDPd d) .D s (padd s.dp (sext16 d)) ∧
    Loads (.ldA_atSPd d) .A s (padd s.sp (sext16 d)) ∧
    Loads .ldA_atCD .A s (join16 s.d s.c)

/-- O28. LD of a register or an immediate to memory, in every addressing form: Each store answers the state after one
write of the register (or of n) at the address of its operand form: every other address holds what it held, and no
register, flag or hidden bit changes. The sum D + d is formed first (the spec's decision D10, log 9). -/
def Obligations.StoreToMemory : Prop :=
  ∀ (s : State) (d n : Byte) (nn : Word),
    Stores .ldAtDP_A s s.dp s.a ∧
    Stores .ldAtDP_B s s.dp s.b ∧
    Stores .ldAtDP_C s s.dp s.c ∧
    Stores .ldAtDP_D s s.dp s.d ∧
    Stores (.ldAtDPd_A d) s (padd s.dp (sext16 d)) s.a ∧
    Stores (.ldAtDPd_B d) s (padd s.dp (sext16 d)) s.b ∧
    Stores (.ldAtDPDd_A d) s (padd s.dp (sext16 s.d + sext16 d)) s.a ∧
    Stores (.ldAtSPDd_A d) s (padd s.sp (sext16 s.d + sext16 d)) s.a ∧
    Stores (.ldAtSPd_B d) s (padd s.sp (sext16 d)) s.b ∧
    Stores (.ldAtSPd_C d) s (padd s.sp (sext16 d)) s.c ∧
    Stores (.ldAtSPd_D d) s (padd s.sp (sext16 d)) s.d ∧
    Stores (.ldAtNN_A nn) s nn s.a ∧
    Stores (.ldAtNN_B nn) s nn s.b ∧
    Stores (.ldAtNN_C nn) s nn s.c ∧
    Stores (.ldAtNN_D nn) s nn s.d ∧
    Stores (.ldAtNN_n n nn) s nn n ∧
    Stores (.ldAtDPd_C d) s (padd s.dp (sext16 d)) s.c ∧
    Stores (.ldAtDPd_D d) s (padd s.dp (sext16 d)) s.d ∧
    Stores (.ldAtSPd_A d) s (padd s.sp (sext16 d)) s.a ∧
    Stores .ldAtCD_A s (join16 s.d s.c) s.a

/-- O29. LD (dd), (ss) and the 16-bit loads and stores: LD (dd), (ss) reads ss, then writes dd. LD CD, (DP) and LD
(DP), CD move two bytes, low byte at DP first, high byte at padd(DP, 1) (decisions D10, D24: log 9, 25). LD DP, AB, LD
DP, nn, LD SP, nn, LD DP, SP + d, LD DP, CD + d and LD CD, SP replace the destination (the sums inside the page of SP
and CD: decision D8, log 7). Nothing else changes. -/
def Obligations.MoveWords : Prop :=
  ∀ (s : State) (d : Byte) (nn ss dd : Word),
    Copies (.ldAtDD_atSS ss dd) s ss dd s.dp ∧
    (∃ w t, ReadsWord s s.dp w t ∧ exec .ldCD_atDP s = .next { t with c := lo8 w, d := hi8 w }) ∧
    StoresWord .ldAtDP_CD s s.dp (join16 s.d s.c) ∧
    exec .ldDP_AB s = .next { s with dp := join16 s.b s.a } ∧
    exec (.ldDP_nn nn) s = .next { s with dp := nn } ∧
    exec (.ldSP_nn nn) s = .next { s with sp := nn } ∧
    exec (.ldDP_SPd d) s = .next { s with dp := padd s.sp (sext16 d) } ∧
    exec (.ldDP_CDd d) s = .next { s with dp := padd (join16 s.d s.c) (sext16 d) } ∧
    exec .ldCD_SP s = .next { s with c := lo8 s.sp, d := hi8 s.sp }

/-- O30. EX AB, CD; EX CD, DP; EX DP, (nn): The register exchanges swap the two pairs. EX DP, (nn) reads the word at
nn, then writes the old DP there (two bytes each, low byte at nn first, high byte at padd(nn, 1): decisions D10, D24,
log 9, 25), then loads DP with the word read. Nothing else changes. -/
def Obligations.Exchanges : Prop :=
  ∀ (s : State) (nn : Word),
    exec .exAB_CD s = .next { s with a := s.c, b := s.d, c := s.a, d := s.b } ∧
    exec .exCD_DP s = .next { s with c := lo8 s.dp, d := hi8 s.dp, dp := join16 s.d s.c } ∧
    ∃ w t u, ReadsWord s nn w t ∧ WritesWord t nn s.dp u ∧ exec (.exDP_atNN nn) s = .next { u with dp := w }

/-- O31. Every form of PUSH: PUSH A, B, F, n push one byte; PUSH CD and PUSH DP push two, high byte first; PUSH (nn)
reads nn and pushes the byte; PUSH ALL does what PUSH DP, PUSH CD, PUSH F, PUSH B, PUSH A do one after another. A push
steps SP down inside its page (decision D8, log 7) and writes at the new SP. Nothing else changes. -/
def Obligations.PushInstructions : Prop :=
  ∀ (s : State) (n : Byte) (nn : Word),
    (∃ t, Pushes s s.a t ∧ exec .pushA s = .next t) ∧
    (∃ t, Pushes s s.b t ∧ exec .pushB s = .next t) ∧
    (∃ t, Pushes s s.f t ∧ exec .pushF s = .next t) ∧
    (∃ t, Pushes s n t ∧ exec (.push_n n) s = .next t) ∧
    (∃ t, PushesWord s (join16 s.d s.c) t ∧ exec .pushCD s = .next t) ∧
    (∃ t, PushesWord s s.dp t ∧ exec .pushDP s = .next t) ∧
    (∃ v t u, ReadsByte s nn v t ∧ Pushes t v u ∧ exec (.pushAtNN nn) s = .next u) ∧
    (∃ t1 t2 t3 t4 t5, PushesWord s s.dp t1 ∧ PushesWord t1 (join16 s.d s.c) t2 ∧ Pushes t2 s.f t3 ∧ Pushes t3 s.b t4 ∧
      Pushes t4 s.a t5 ∧ exec .pushALL s = .next t5)

/-- O32. Every form of POP: POP A, B, F load one popped byte (POP F all eight bits of F: conflict C9, log 45); POP CD
and POP DP two, low byte first; POP ALL loads A, B, F, CD, DP in this order; POP (nn) reads at SP, writes nn, then
steps SP. A pop reads at SP and steps SP up inside its page (decision D8, log 7). Nothing else changes. -/
def Obligations.PopInstructions : Prop :=
  ∀ (s : State) (nn : Word),
    (∃ v t, Pops s v t ∧ exec .popA s = .next { t with a := v }) ∧
    (∃ v t, Pops s v t ∧ exec .popB s = .next { t with b := v }) ∧
    (∃ v t, Pops s v t ∧ exec .popF s = .next { t with f := v }) ∧
    (∃ w t, PopsWord s w t ∧ exec .popCD s = .next { t with c := lo8 w, d := hi8 w }) ∧
    (∃ w t, PopsWord s w t ∧ exec .popDP s = .next { t with dp := w }) ∧
    (∃ a b f cd dp t1 t2 t3 t4 t5, Pops s a t1 ∧ Pops t1 b t2 ∧ Pops t2 f t3 ∧ PopsWord t3 cd t4 ∧ PopsWord t4 dp t5 ∧
      exec .popALL s = .next { t5 with a := a, b := b, f := f, c := lo8 cd, d := hi8 cd, dp := dp }) ∧
    (∃ v t u, ReadsByte s s.sp v t ∧ WritesByte t nn v u ∧
      exec (.popAtNN nn) s = .next { u with sp := padd s.sp 1 })

/-- O33. ADD, ADDC, SUB, SUBB on registers, INC A, DEC A: result and all eight flags: Each replaces its first operand
by the sum or difference modulo 256 of it and the second operand (and C before the instruction, for ADDC and SUBB) and
F by the eight flags of that operation, and changes nothing else. C as borrow, the signs, OV with the carry and the
uncut second operand are the spec's decisions D2 to D6 (log 2 to 5), the places of the flags D1 (log 1). -/
def Obligations.ArithmeticOnRegisters : Prop :=
  ∀ (s : State) (n : Byte),
    AluInto .addA_B .ADD .A s.b false s ∧
    AluInto .addA_C .ADD .A s.c false s ∧
    AluInto .addA_D .ADD .A s.d false s ∧
    AluInto (.addA_n n) .ADD .A n false s ∧
    AluInto (.addB_n n) .ADD .B n false s ∧
    AluInto (.addC_n n) .ADD .C n false s ∧
    AluInto (.addD_n n) .ADD .D n false s ∧
    AluInto .addcA_A .ADD .A s.a (s.flag .C) s ∧
    AluInto .addcA_B .ADD .A s.b (s.flag .C) s ∧
    AluInto .addcA_C .ADD .A s.c (s.flag .C) s ∧
    AluInto .addcA_D .ADD .A s.d (s.flag .C) s ∧
    AluInto (.addcA_n n) .ADD .A n (s.flag .C) s ∧
    AluInto (.addcB_n n) .ADD .B n (s.flag .C) s ∧
    AluInto (.addcC_n n) .ADD .C n (s.flag .C) s ∧
    AluInto (.addcD_n n) .ADD .D n (s.flag .C) s ∧
    AluInto .subA_B .SUB .A s.b false s ∧
    AluInto .subA_C .SUB .A s.c false s ∧
    AluInto .subA_D .SUB .A s.d false s ∧
    AluInto (.subA_n n) .SUB .A n false s ∧
    AluInto (.subB_n n) .SUB .B n false s ∧
    AluInto (.subC_n n) .SUB .C n false s ∧
    AluInto (.subD_n n) .SUB .D n false s ∧
    AluInto .subbA_B .SUB .A s.b (s.flag .C) s ∧
    AluInto .subbA_C .SUB .A s.c (s.flag .C) s ∧
    AluInto .subbA_D .SUB .A s.d (s.flag .C) s ∧
    AluInto (.subbA_n n) .SUB .A n (s.flag .C) s ∧
    AluInto (.subbB_n n) .SUB .B n (s.flag .C) s ∧
    AluInto (.subbC_n n) .SUB .C n (s.flag .C) s ∧
    AluInto (.subbD_n n) .SUB .D n (s.flag .C) s ∧
    AluInto .incA .ADD .A 1 false s ∧
    AluInto .decA .SUB .A 1 false s

/-- O34. AND, OR, XOR on registers and CPL A: result and all eight flags: Each replaces its first operand by the
bitwise combination and F by the eight flags, C and OV 0 (decision D7, log 6), and changes nothing else. -/
def Obligations.LogicOnRegisters : Prop :=
  ∀ (s : State) (n : Byte),
    AluInto .andA_B .AND .A s.b false s ∧
    AluInto .andA_C .AND .A s.c false s ∧
    AluInto .andA_D .AND .A s.d false s ∧
    AluInto (.andA_n n) .AND .A n false s ∧
    AluInto (.andB_n n) .AND .B n false s ∧
    AluInto (.andC_n n) .AND .C n false s ∧
    AluInto (.andD_n n) .AND .D n false s ∧
    AluInto .orA_B .OR .A s.b false s ∧
    AluInto .orA_C .OR .A s.c false s ∧
    AluInto .orA_D .OR .A s.d false s ∧
    AluInto (.orA_n n) .OR .A n false s ∧
    AluInto (.orB_n n) .OR .B n false s ∧
    AluInto (.orC_n n) .OR .C n false s ∧
    AluInto (.orD_n n) .OR .D n false s ∧
    AluInto .xorA_B .XOR .A s.b false s ∧
    AluInto .xorA_C .XOR .A s.c false s ∧
    AluInto .xorA_D .XOR .A s.d false s ∧
    AluInto (.xorA_n n) .XOR .A n false s ∧
    AluInto (.xorB_n n) .XOR .B n false s ∧
    AluInto (.xorC_n n) .XOR .C n false s ∧
    AluInto (.xorD_n n) .XOR .D n false s ∧
    AluInto .cplA .XOR .A 0xFF false s

/-- O35. ADD, ADDC, SUB, SUBB, AND, OR, XOR A, (DP): Each reads the byte at DP once, replaces A by the result on A and
that byte and F by the eight flags, and changes nothing else; memory is only read. Decisions D1 to D7 of the spec (log
1 to 6). -/
def Obligations.AluFromMemory : Prop :=
  ∀ s : State,
    AluFrom .addA_atDP .ADD s.dp false s ∧
    AluFrom .addcA_atDP .ADD s.dp (s.flag .C) s ∧
    AluFrom .subA_atDP .SUB s.dp false s ∧
    AluFrom .subbA_atDP .SUB s.dp (s.flag .C) s ∧
    AluFrom .andA_atDP .AND s.dp false s ∧
    AluFrom .orA_atDP .OR s.dp false s ∧
    AluFrom .xorA_atDP .XOR s.dp false s

/-- O36. The ALU instructions whose destination is (DP) or (nn): Each reads the byte at the address once, writes the
result on that byte and the second operand back to the same address, and replaces F by the eight flags; every other
address and every register is unchanged. Decisions D1 to D7 of the spec (log 1 to 6). -/
def Obligations.AluOntoMemory : Prop :=
  ∀ (s : State) (n : Byte) (nn : Word),
    AluOnto .addAtDP_A .ADD s.dp s.a false s ∧
    AluOnto .addcAtDP_A .ADD s.dp s.a (s.flag .C) s ∧
    AluOnto .subAtDP_A .SUB s.dp s.a false s ∧
    AluOnto .subbAtDP_A .SUB s.dp s.a (s.flag .C) s ∧
    AluOnto (.addAtDP_n n) .ADD s.dp n false s ∧
    AluOnto (.addcAtDP_n n) .ADD s.dp n (s.flag .C) s ∧
    AluOnto (.subAtDP_n n) .SUB s.dp n false s ∧
    AluOnto (.subbAtDP_n n) .SUB s.dp n (s.flag .C) s ∧
    AluOnto .andAtDP_A .AND s.dp s.a false s ∧
    AluOnto (.andAtDP_n n) .AND s.dp n false s ∧
    AluOnto .orAtDP_A .OR s.dp s.a false s ∧
    AluOnto (.orAtDP_n n) .OR s.dp n false s ∧
    AluOnto .xorAtDP_A .XOR s.dp s.a false s ∧
    AluOnto (.xorAtDP_n n) .XOR s.dp n false s ∧
    AluOnto .incAtDP .ADD s.dp 1 false s ∧
    AluOnto .decAtDP .SUB s.dp 1 false s ∧
    AluOnto (.incAtNN nn) .ADD nn 1 false s ∧
    AluOnto (.decAtNN nn) .SUB nn 1 false s

/-- O37. CP in all its forms and TEST A, n write F and nothing else: Each replaces F by the eight flags of the
subtraction (CP) or of the AND (TEST) of its operands and changes nothing else; the forms with (DP) read the byte at
DP once and do not write it. Decisions D1 to D7 of the spec (log 1 to 6). -/
def Obligations.CompareAndTest : Prop :=
  ∀ (s : State) (n : Byte),
    AluFlagsOnly .cpA_C .SUB s.a s.c s ∧
    AluFlagsOnly .cpA_D .SUB s.a s.d s ∧
    AluFlagsOnly .cpA_B .SUB s.a s.b s ∧
    AluFlagsOnly (.cpA_n n) .SUB s.a n s ∧
    AluFlagsOnly (.cpB_n n) .SUB s.b n s ∧
    AluFlagsOnly (.cpC_n n) .SUB s.c n s ∧
    AluFlagsOnly (.cpD_n n) .SUB s.d n s ∧
    AluFlagsOnly (.testA_n n) .AND s.a n s ∧
    (∃ m t v f, ReadsByte s s.dp m t ∧ AluDoes .SUB s.a m false v f ∧ exec .cpA_atDP s = .next { t with f := f }) ∧
    (∃ m t v f, ReadsByte s s.dp m t ∧ AluDoes .SUB m n false v f ∧ exec (.cpAtDP_n n) s = .next { t with f := f })

/-- O38. NOP, CLR A, DI, EI: NOP changes nothing beyond the fetch; CLR A sets A to 0 and leaves F; DI and EI write IE
and nothing else. -/
def Obligations.PlainInstructions : Prop :=
  ∀ s : State,
    exec .nop s = .next s ∧ exec .clrA s = .next { s with a := 0 } ∧
    exec .di s = .next { s with ie := false } ∧ exec .ei s = .next { s with ie := true }

/-- O39. MUL and MUL16 deliver the whole unsigned product: MUL AB and MUL A, n put the 16-bit product into A (low) and
B (high), MUL CD, AB into C and D, MUL (DP), AB at DP (low) and padd(DP, 1) (high); MUL16 AB, C puts the 24-bit
product of AB and C into A, B, C from low to high; the product always fits (R373, with the destinations of R243 to
R247). F and everything else is unchanged. In MUL (DP), AB that the high byte goes to padd(DP, 1), and after the low
byte, is the spec's decisions D10 and D24 (log 9, 25). -/
def Obligations.Multiply : Prop :=
  ∀ (s : State) (n : Byte),
    (∃ lo hi : Byte, hi.toNat * 256 + lo.toNat = s.a.toNat * s.b.toNat ∧
      exec .mulAB s = .next { s with a := lo, b := hi } ∧ exec .mulCD_AB s = .next { s with c := lo, d := hi }) ∧
    (∃ lo hi : Byte, hi.toNat * 256 + lo.toNat = s.a.toNat * n.toNat ∧
      exec (.mulA_n n) s = .next { s with a := lo, b := hi }) ∧
    (∃ w : Word, w.toNat = s.a.toNat * s.b.toNat ∧ StoresWord .mulAtDP_AB s s.dp w) ∧
    (∃ lo mid hi : Byte,
      hi.toNat * 65536 + mid.toNat * 256 + lo.toNat = (s.b.toNat * 256 + s.a.toNat) * s.c.toNat ∧
      exec .mul16AB_C s = .next { s with a := lo, b := mid, c := hi })

/-- O40. DIV and DIVNR deliver the unsigned quotient and remainder: For a divisor that is not zero, q = floor(a / b)
and m = a - q * b with m < b; DIV A, B and DIV A, n put them into A and B, DIV CD, AB into C and D, DIV (DP), AB at DP
and padd(DP, 1); DIVNR A, B puts q into A and leaves B (R374, with the destinations of R248 to R252). F and everything
else is unchanged. In DIV (DP), AB that the remainder goes to padd(DP, 1), and after the quotient, is the spec's
decisions D10 and D24 (log 9, 25). -/
def Obligations.Divide : Prop :=
  ∀ (s : State) (n : Byte),
    (s.b ≠ 0 → ∃ q m : Byte, q.toNat = s.a.toNat / s.b.toNat ∧ q.toNat * s.b.toNat + m.toNat = s.a.toNat ∧
      m.toNat < s.b.toNat ∧ exec .divA_B s = .next { s with a := q, b := m } ∧
      exec .divCD_AB s = .next { s with c := q, d := m } ∧ StoresWord .divAtDP_AB s s.dp (join16 m q) ∧
      exec .divnrA_B s = .next { s with a := q }) ∧
    (n ≠ 0 → ∃ q m : Byte, q.toNat = s.a.toNat / n.toNat ∧ q.toNat * n.toNat + m.toNat = s.a.toNat ∧
      m.toNat < n.toNat ∧ exec (.divA_n n) s = .next { s with a := q, b := m })

/-- O41. Division by zero completes with the free values DIV0: With a zero divisor every DIV form completes and
delivers the two bytes of the free value DIV0 of the dividend to the same destinations; F and everything else is
unchanged. The bytes are a free value (log 12, decision D13): the statement holds for every choice of them. In DIV
(DP), AB that the remainder byte goes to padd(DP, 1), and after the quotient byte, is the spec's decisions D10 and D24
(log 9, 25). -/
def Obligations.DivideByZero : Prop :=
  ∀ s : State,
    exec (.divA_n 0) s = .next { s with a := (Config.div0 s.a).1, b := (Config.div0 s.a).2 } ∧
    (s.b = 0 →
      exec .divA_B s = .next { s with a := (Config.div0 s.a).1, b := (Config.div0 s.a).2 } ∧
      exec .divCD_AB s = .next { s with c := (Config.div0 s.a).1, d := (Config.div0 s.a).2 } ∧
      StoresWord .divAtDP_AB s s.dp (join16 (Config.div0 s.a).2 (Config.div0 s.a).1) ∧
      exec .divnrA_B s = .next { s with a := (Config.div0 s.a).1 })

/-- O42. The five EXT instructions: where arg and OP come from and where the result goes: arg is A; OP is B or the
operand byte; res_L and res_H go to A and B (EXT A, EXTDIR), to DP and padd(DP, 1) (EXT (DP), A; the second address is
the spec's decision D10, log 9, and that res_L is written first its decision D24, log 25), to C and D (EXT CD, A), or
res_L alone to A with B kept (EXTDIRL). F and everything else is unchanged. -/
def Obligations.ExtInstructions : Prop :=
  ∀ (s : State) (oper : Byte),
    exec .extA s = .next { s with a := lo8 (ext s.a s.b), b := hi8 (ext s.a s.b) } ∧
    exec (.extdirA_oper oper) s = .next { s with a := lo8 (ext s.a oper), b := hi8 (ext s.a oper) } ∧
    StoresWord .extAtDP_A s s.dp (ext s.a s.b) ∧
    exec .extCD_A s = .next { s with c := lo8 (ext s.a s.b), d := hi8 (ext s.a s.b) } ∧
    exec (.extdirlA_oper oper) s = .next { s with a := lo8 (ext s.a oper) }

/-- O43. Bit insertion: the set mask and the reset mask: For a selector of type 0LLLPPP with 0 (reset) or 1 (set)
before L, the stream word W, whose left byte is res_L and whose right byte is res_H, holds the L low bits of arg at
stream indices P to P + L - 1 and zeros (set) or ones (reset) elsewhere: bit 15 - k of W is bit P + L - 1 - k of arg
for P <= k < P + L. A length of 0 inserts nothing (decision D23, log 24). -/
def Obligations.ExtInsertionMasks : Prop :=
  ∀ (arg op : Byte) (k : Nat), op.toNat < 128 → k < 16 →
    (join16 (lo8 (ext arg op)) (hi8 (ext arg op))).getLsbD (15 - k) =
      if op.toNat % 8 ≤ k ∧ k < op.toNat % 8 + op.toNat / 8 % 8
      then arg.getLsbD (op.toNat % 8 + op.toNat / 8 % 8 - 1 - k)
      else decide (op.toNat < 64)

/-- O44. AND with the reset mask and OR with the set mask writes the field, whatever was there: For the selectors P +
8 L (reset) and 64 + P + 8 L (set), ANDing any 16 bits of the stream with the reset mask and ORing with the set mask
leaves, in either order, the L low bits of arg at stream indices P to P + L - 1 and every other bit as it was. -/
def Obligations.InsertedFieldReplaced : Prop :=
  ∀ (arg op : Byte) (dst : Word) (k : Nat), op.toNat < 64 → k < 16 →
    let r := join16 (lo8 (ext arg op)) (hi8 (ext arg op))
    let w := join16 (lo8 (ext arg (op + 64))) (hi8 (ext arg (op + 64)))
    (dst &&& r) ||| w = (dst ||| w) &&& r ∧
    ((dst &&& r) ||| w).getLsbD (15 - k) =
      if op.toNat % 8 ≤ k ∧ k < op.toNat % 8 + op.toNat / 8 % 8
      then arg.getLsbD (op.toNat % 8 + op.toNat / 8 % 8 - 1 - k)
      else dst.getLsbD (15 - k)

/-- O45. Bit slicing: inside the byte, and running past it: For OP = 10LLLPPP: if P + L <= 8, res_L is (arg >> (8 - P
- L)) mod 2^L and res_H is 0 (with L = 0 the result is 0); if P + L > 8, res_L is (arg mod 2^(8 - P)) shifted left by
R and res_H is R = P + L - 8, which is 1 to 6, and res_L is below 2^L. That a length of 0 slices no bits is the spec's
decision D23 (log 24). -/
def Obligations.ExtSlicing : Prop :=
  ∀ (arg op : Byte), 128 ≤ op.toNat → op.toNat < 192 →
    let l := op.toNat / 8 % 8
    let p := op.toNat % 8
    (p + l ≤ 8 → (lo8 (ext arg op)).toNat = arg.toNat / 2 ^ (8 - p - l) % 2 ^ l ∧ hi8 (ext arg op) = 0 ∧
      (l = 0 → ext arg op = 0)) ∧
    (8 < p + l → (lo8 (ext arg op)).toNat = arg.toNat % 2 ^ (8 - p) * 2 ^ (p + l - 8) ∧
      (hi8 (ext arg op)).toNat = p + l - 8 ∧ 1 ≤ p + l - 8 ∧ p + l - 8 ≤ 6 ∧ (lo8 (ext arg op)).toNat < 2 ^ l)

/-- O46. Shift left, rotate left, rotate right: For N = 0 to 7: OP 0xC0 + N gives arg * 2^N as a 16-bit result, so
res_L is (arg * 2^N) mod 256 and res_H is arg >> (8 - N); OP 0xD0 + N gives res_L with bit (k + N) mod 8 equal to bit
k of arg and res_H = 0; OP 0xD8 + N gives res_L with bit k equal to bit (k + N) mod 8 of arg and res_H = 0; rotating
right by N equals rotating left by 8 - N for N from 1 to 7. -/
def Obligations.ExtShiftLeftAndRotates : Prop :=
  ∀ (arg : Byte) (n : Nat), n < 8 →
    (ext arg (0xC0 + BitVec.ofNat 8 n)).toNat = arg.toNat * 2 ^ n ∧
    (lo8 (ext arg (0xC0 + BitVec.ofNat 8 n))).toNat = arg.toNat * 2 ^ n % 256 ∧
    (hi8 (ext arg (0xC0 + BitVec.ofNat 8 n))).toNat = arg.toNat / 2 ^ (8 - n) ∧
    (∀ k < 8, (lo8 (ext arg (0xD0 + BitVec.ofNat 8 n))).getLsbD ((k + n) % 8) = arg.getLsbD k) ∧
    hi8 (ext arg (0xD0 + BitVec.ofNat 8 n)) = 0 ∧
    (∀ k < 8, (lo8 (ext arg (0xD8 + BitVec.ofNat 8 n))).getLsbD k = arg.getLsbD ((k + n) % 8)) ∧
    hi8 (ext arg (0xD8 + BitVec.ofNat 8 n)) = 0 ∧
    (1 ≤ n → ext arg (0xD8 + BitVec.ofNat 8 n) = ext arg (0xD0 + BitVec.ofNat 8 (8 - n)))

/-- O47. Logical shift right: the bits shifted out are left-aligned in res_H: For N = 0 to 7, OP 0xC8 + N gives res_L
= arg >> N and res_H = (arg << (8 - N)) mod 256; the pair res_L:res_H is arg * 256 >> N. The alignment of res_H is the
spec's decision D18 (log 17). -/
def Obligations.ExtShiftRight : Prop :=
  ∀ (arg : Byte) (n : Nat), n < 8 →
    (lo8 (ext arg (0xC8 + BitVec.ofNat 8 n))).toNat = arg.toNat / 2 ^ n ∧
    (hi8 (ext arg (0xC8 + BitVec.ofNat 8 n))).toNat = arg.toNat * 2 ^ (8 - n) % 256 ∧
    (lo8 (ext arg (0xC8 + BitVec.ofNat 8 n))).toNat * 256 + (hi8 (ext arg (0xC8 + BitVec.ofNat 8 n))).toNat =
      arg.toNat * 256 / 2 ^ n

/-- O48. The eight bitwise operations 0xE0 to 0xE7: res_L is the negation (0xE0, res_H = 0), the nibble swap, the
mirror image, the number of ones, the arithmetic negation, the arithmetic shift right by one (bit 7 of res_H the bit
shifted out), the absolute value, the sign-magnitude conversion (0x80 kept: decision D29, log 30); the res_H that the
manual does not state is the free value EXT_H_UNSTATED of the selector (log 13), for 0xE5 its low seven bits. -/
def Obligations.ExtBitwise : Prop :=
  ∀ arg : Byte,
    (lo8 (ext arg 0xE0)).toNat = 255 - arg.toNat ∧ hi8 (ext arg 0xE0) = 0 ∧
    (lo8 (ext arg 0xE1)).toNat = arg.toNat % 16 * 16 + arg.toNat / 16 ∧
    (∀ k < 8, (lo8 (ext arg 0xE2)).getLsbD k = arg.getLsbD (7 - k)) ∧
    (lo8 (ext arg 0xE3)).toNat = ((List.range 8).countP fun k => arg.getLsbD k) ∧
    (lo8 (ext arg 0xE4)).toNat = (256 - arg.toNat) % 256 ∧
    (lo8 (ext arg 0xE5)).toInt = arg.toInt / 2 ∧ (hi8 (ext arg 0xE5)).getLsbD 7 = arg.getLsbD 0 ∧
    (∀ k < 7, (hi8 (ext arg 0xE5)).getLsbD k = (Config.extHighUnstated 0xE5).getLsbD k) ∧
    (lo8 (ext arg 0xE6)).toNat = arg.toInt.natAbs ∧
    (arg.toNat < 128 → lo8 (ext arg 0xE7) = arg) ∧
    (128 < arg.toNat → (lo8 (ext arg 0xE7)).toNat = 128 + (256 - arg.toNat)) ∧
    lo8 (ext 0x80 0xE7) = 0x80 ∧
    (∀ op ∈ [(0xE1 : Byte), 0xE2, 0xE3, 0xE4, 0xE6, 0xE7], hi8 (ext arg op) = Config.extHighUnstated op)

/-- O49. Square, cube, signed square, signed fractional square, with saturation: OP 0xE8 is arg * arg; OP 0xE9 is the
cube, 0xFFFF for arg of 41 and more; OP 0xF6 is s * s and OP 0xF7 is 4 * s * s for s the signed argument, 0xFFFF where
that is 65536, at s = -128. -/
def Obligations.ExtPowers : Prop :=
  ∀ arg : Byte,
    (ext arg 0xE8).toNat = arg.toNat * arg.toNat ∧
    (arg.toNat ≤ 40 → (ext arg 0xE9).toNat = arg.toNat * arg.toNat * arg.toNat) ∧
    (41 ≤ arg.toNat → ext arg 0xE9 = 0xFFFF) ∧
    ((ext arg 0xF6).toNat : Int) = arg.toInt * arg.toInt ∧
    (arg ≠ 0x80 → ((ext arg 0xF7).toNat : Int) = 4 * (arg.toInt * arg.toInt)) ∧ ext 0x80 0xF7 = 0xFFFF

/-- O50. Roots, fractional powers and the logarithms to base 2 and 10 are the nearest integers: For every argument the
result r of the square roots (0xEA, 0xFA) and cube roots (0xEB, 0xFB) is the integer nearest the true value, said
without roots: (2r - 1)^2 <= 4 x <= (2r + 1)^2 for the radicand x of the scaled root, and (2r - 1)^3 <= 8 x <= (2r +
1)^3; 0xF8 is arg squared and 0xF9 the nearest to arg cubed / 256; 0xEE, 0xEF (arg of 1 and more) are the nearest to
256 times the logarithm, said with powers of 2 and 10, and 0xFE, 0xFF likewise for arg / 256; the logarithm of 0 is
0x8000. Exact rounding is the spec's decision D15 (log 14), the logarithm of 0 its decision D16 (log 15). -/
def Obligations.ExtRootsAndLogarithms : Prop :=
  ∀ arg : Byte,
    let a := arg.toNat
    let near2 (r x : Nat) : Prop := (2 * r - 1) ^ 2 ≤ 4 * x ∧ 4 * x ≤ (2 * r + 1) ^ 2
    let near3 (r x : Nat) : Prop := (2 * r - 1) ^ 3 ≤ 8 * x ∧ 8 * x ≤ (2 * r + 1) ^ 3
    near2 (ext arg 0xEA).toNat (a * 256 ^ 2) ∧ near2 (ext arg 0xFA).toNat (a * 4096 ^ 2) ∧
    near3 (ext arg 0xEB).toNat (a * 256 ^ 3) ∧ near3 (ext arg 0xFB).toNat (a * 2 ^ 40) ∧
    (ext arg 0xF8).toNat = a ^ 2 ∧ 256 * (ext arg 0xF9).toNat ≤ a ^ 3 + 128 ∧ a ^ 3 ≤ 256 * (ext arg 0xF9).toNat + 128 ∧
    (1 ≤ a →
      2 ^ (2 * (ext arg 0xEE).toNat) ≤ 2 * a ^ 512 ∧ a ^ 512 ≤ 2 ^ (2 * (ext arg 0xEE).toNat + 1) ∧
      10 ^ (2 * (ext arg 0xEF).toNat) ≤ 10 * a ^ 512 ∧ a ^ 512 ≤ 10 ^ (2 * (ext arg 0xEF).toNat + 1) ∧
      (ext arg 0xFE).toInt = (ext arg 0xEE).toInt - 2048 ∧ (ext arg 0xFF).toInt ≤ 0 ∧
      10 ^ (2 * (ext arg 0xFF).toInt.natAbs) * a ^ 512 ≤ 10 * 256 ^ 512 ∧
      256 ^ 512 ≤ 10 ^ (2 * (ext arg 0xFF).toInt.natAbs + 1) * a ^ 512) ∧
    (∀ op ∈ [(0xED : Byte), 0xEE, 0xEF, 0xFD, 0xFE, 0xFF], ext 0 op = 0x8000)

/-- O51. The trigonometric, exponential and logarithmic operations: the values the rules name, their symmetries, and
the two free points: The values that R428 to R435, R438 and R439 name come out, with the largest values that R429
gives for arg of 1 and more; sine, inverse sine, tangent and inverse tangent are odd and cosine is even away from
their end points; inverse cosine of s and of -s sum to 0x8000; the exponentials grow; EXT(0x80, 0xF3) and EXT(0x80,
0xF4) are free values (log 38). Exact rounding is the spec's decision D15 (log 14). -/
def Obligations.ExtTranscendental : Prop :=
  (ext 0 0xEC = 1 ∧ ext 11 0xEC = 0xE9E2 ∧ (∀ arg : Byte, 12 ≤ arg.toNat → ext arg 0xEC = 0xFFFF)) ∧
    (ext 64 0xF0 = 0x7FFF ∧ ext 0xC0 0xF0 = 0x8000 ∧ ext 0 0xF0 = 0 ∧ ext 0x80 0xF0 = 0) ∧
    (ext 0x80 0xF1 = 0xC000 ∧ ext 127 0xF1 = 0x3AE7 ∧ ext 0 0xF2 = 0x7FFF ∧ ext 0x80 0xF2 = 0x8001) ∧
    (ext 127 0xF3 = 0 ∧ ext 0 0xF3 = 0x4000 ∧ ext 0x81 0xF3 = 0x7FFF) ∧
    (ext 64 0xF4 = 0x0100 ∧ ext 127 0xF4 = 0x517C ∧ ext 0x81 0xF4 = 0xAE84) ∧
    (ext 16 0xF5 = 0x4000 ∧ ext 0x80 0xF5 = 0x8A22 ∧ ext 0 0xFC = 0x0100 ∧ ext 255 0xFC = 0x02B5) ∧
    (ext 255 0xED = 0x058B ∧ ext 255 0xEE = 0x07FF ∧ ext 255 0xEF = 0x0268 ∧
      ∀ arg : Byte, 1 ≤ arg.toNat → (ext arg 0xED).toNat ≤ 0x058B ∧ (ext arg 0xEE).toNat ≤ 0x07FF ∧
        (ext arg 0xEF).toNat ≤ 0x0268) ∧
    (ext 1 0xFD = 0xFA74 ∧ ext 1 0xFE = 0xF800 ∧ ext 1 0xFF = 0xFD97 ∧
      ext 255 0xFD = 0xFFFF ∧ ext 255 0xFE = 0xFFFF ∧ ext 255 0xFF = 0) ∧
    (∀ arg : Byte, arg ≠ 64 → arg ≠ 0xC0 → ext (-arg) 0xF0 = -ext arg 0xF0) ∧
    (∀ arg : Byte, ext (-arg) 0xF2 = ext arg 0xF2) ∧
    (∀ arg : Byte, arg ≠ 0x80 → ext (-arg) 0xF1 = -ext arg 0xF1 ∧ ext (-arg) 0xF4 = -ext arg 0xF4 ∧
      ext (-arg) 0xF5 = -ext arg 0xF5) ∧
    (∀ arg : Byte, arg ≠ 0x80 → arg ≠ 127 → arg ≠ 0x81 → ext arg 0xF3 + ext (-arg) 0xF3 = 0x8000) ∧
    (∀ arg : Byte, arg ≠ 255 → (ext arg 0xFC).toNat ≤ (ext (arg + 1) 0xFC).toNat ∧
      (ext arg 0xEC).toNat ≤ (ext (arg + 1) 0xEC).toNat) ∧
    ext 0x80 0xF3 = Config.extUndefAcos ∧ ext 0x80 0xF4 = Config.extUndefTan

/-- O52. INC DP, DEC DP, ADD DP, ADD SP: Each changes its register by 1, -1, the signed byte A or the signed byte d
inside its page and changes nothing else, F included. The confinement and the signed A are the spec's decisions D8,
D11 (log 7, 10). -/
def Obligations.AddressSteps : Prop :=
  ∀ (s : State) (d : Byte),
    exec .incDP s = .next { s with dp := padd s.dp 1 } ∧
    exec .decDP s = .next { s with dp := padd s.dp (BitVec.ofInt 16 (-1)) } ∧
    exec .addDP_A s = .next { s with dp := padd s.dp (sext16 s.a) } ∧
    exec (.addDP_d d) s = .next { s with dp := padd s.dp (sext16 d) } ∧
    exec .addSP_A s = .next { s with sp := padd s.sp (sext16 s.a) } ∧
    exec (.addSP_d d) s = .next { s with sp := padd s.sp (sext16 d) }

/-- O53. ADD CD and SUB CD are 16-bit operations; F is that of the high-byte pass: ADD CD, AB, SUB CD, AB, ADD CD, nn
and SUB CD, nn replace CD by the sum or difference modulo 65536 and F by the eight flags of the pass on the high
bytes, whose carry-in is the carry or borrow of the pass on the low bytes, which itself has carry-in 0; nothing else
changes, and C of F before the instruction is not read (R380). What the eight flags are rests on the spec's decisions
D1 to D6 (log 1 to 5). -/
def Obligations.PairArithmetic : Prop :=
  ∀ (s : State) (nn : Word),
    let does (i : Instr) (op : AluOp) (lo hi : Byte) (cd : Int) : Prop :=
      ∃ rl fl rh fh, AluDoes op s.c lo false rl fl ∧ AluDoes op s.d hi (flagOf fl .C) rh fh ∧
        (rh.toNat * 256 + rl.toNat : Int) = cd % 65536 ∧ exec i s = .next { s with c := rl, d := rh, f := fh }
    does .addCD_AB .ADD s.a s.b ((s.d.toNat * 256 + s.c.toNat) + (s.b.toNat * 256 + s.a.toNat)) ∧
    does .subCD_AB .SUB s.a s.b ((s.d.toNat * 256 + s.c.toNat) - (s.b.toNat * 256 + s.a.toNat)) ∧
    does (.addCD_nn nn) .ADD (lo8 nn) (hi8 nn) ((s.d.toNat * 256 + s.c.toNat) + nn.toNat) ∧
    does (.subCD_nn nn) .SUB (lo8 nn) (hi8 nn) ((s.d.toNat * 256 + s.c.toNat) - nn.toNat)

/-- O54. After ADD CD and SUB CD, C, OV and NEG describe the 16-bit result: After ADD CD, AB and ADD CD, nn: C is the
carry out of bit 15, OV is 1 exactly when the signed 16-bit sum is out of range, NEG is bit 15 of the new CD; after
SUB CD, AB and SUB CD, nn: C is the 16-bit borrow, OV the signed 16-bit overflow, NEG bit 15. Z is 1 exactly when the
new D is 0. Readings D2 to D5 of the spec (log 2 to 4). -/
def Obligations.PairFlags : Prop :=
  ∀ (s t : State) (nn : Word),
    let flagsAre (carry : Prop) (exact : Int) : Prop :=
      (t.flag .C = true ↔ carry) ∧ (t.flag .OV = true ↔ exact < -32768 ∨ 32767 < exact) ∧
      (t.flag .NEG = true ↔ t.cd.toInt < 0) ∧ (t.flag .Z = true ↔ t.d = 0)
    (exec .addCD_AB s = .next t → flagsAre (65536 ≤ s.cd.toNat + s.ab.toNat) (s.cd.toInt + s.ab.toInt)) ∧
    (exec .subCD_AB s = .next t → flagsAre (s.cd.toNat < s.ab.toNat) (s.cd.toInt - s.ab.toInt)) ∧
    (exec (.addCD_nn nn) s = .next t → flagsAre (65536 ≤ s.cd.toNat + nn.toNat) (s.cd.toInt + nn.toInt)) ∧
    (exec (.subCD_nn nn) s = .next t → flagsAre (s.cd.toNat < nn.toNat) (s.cd.toInt - nn.toInt))

/-- O55. JP nn, JP cc, nn and JP DP + d: JP nn loads PC with nn; JP DP + d with DP plus the signed d inside the page
of DP; JP cc, nn with nn exactly when the flag's bit of F (C 0, OV 1, Z 2, NEG 3, POS 4, EQ 5, LT 6, GT 7) is 1;
nothing else changes, and a jump not taken changes nothing. The places of the flags are the spec's decision D1 (log
1). -/
def Obligations.AbsoluteJumps : Prop :=
  ∀ (s : State) (d : Byte) (nn : Word),
    exec (.jp_nn nn) s = .next { s with pc := nn } ∧
    exec (.jpDPd d) s = .next { s with pc := padd s.dp (sext16 d) } ∧
    JumpsIf (.jpC_nn nn) (s.f.getLsbD 0 = true) nn s ∧
    JumpsIf (.jpOV_nn nn) (s.f.getLsbD 1 = true) nn s ∧
    JumpsIf (.jpZ_nn nn) (s.f.getLsbD 2 = true) nn s ∧
    JumpsIf (.jpNEG_nn nn) (s.f.getLsbD 3 = true) nn s ∧
    JumpsIf (.jpPOS_nn nn) (s.f.getLsbD 4 = true) nn s ∧
    JumpsIf (.jpEQ_nn nn) (s.f.getLsbD 5 = true) nn s ∧
    JumpsIf (.jpLT_nn nn) (s.f.getLsbD 6 = true) nn s ∧
    JumpsIf (.jpGT_nn nn) (s.f.getLsbD 7 = true) nn s

/-- O56. JR d, JR cc, d, JR Ncc, d and DJNZ d: JR d adds the signed d to PC (the address after the instruction) inside
its page; JR cc, d does so exactly when the flag's bit of F is 1, JR Ncc, d exactly when it is 0; DJNZ d decrements B
modulo 256, leaves F, and jumps exactly when the new B is not 0; nothing else changes. The base for the conditional
forms and the test of B are the spec's decision D12 (log 11). -/
def Obligations.RelativeJumps : Prop :=
  ∀ (s : State) (d : Byte),
    exec (.jr_d d) s = .next { s with pc := padd s.pc (sext16 d) } ∧
    JumpsIf (.jrC_d d) (s.f.getLsbD 0 = true) (padd s.pc (sext16 d)) s ∧
    JumpsIf (.jrOV_d d) (s.f.getLsbD 1 = true) (padd s.pc (sext16 d)) s ∧
    JumpsIf (.jrZ_d d) (s.f.getLsbD 2 = true) (padd s.pc (sext16 d)) s ∧
    JumpsIf (.jrNEG_d d) (s.f.getLsbD 3 = true) (padd s.pc (sext16 d)) s ∧
    JumpsIf (.jrPOS_d d) (s.f.getLsbD 4 = true) (padd s.pc (sext16 d)) s ∧
    JumpsIf (.jrEQ_d d) (s.f.getLsbD 5 = true) (padd s.pc (sext16 d)) s ∧
    JumpsIf (.jrLT_d d) (s.f.getLsbD 6 = true) (padd s.pc (sext16 d)) s ∧
    JumpsIf (.jrGT_d d) (s.f.getLsbD 7 = true) (padd s.pc (sext16 d)) s ∧
    JumpsIf (.jrNC_d d) (s.f.getLsbD 0 = false) (padd s.pc (sext16 d)) s ∧
    JumpsIf (.jrNOV_d d) (s.f.getLsbD 1 = false) (padd s.pc (sext16 d)) s ∧
    JumpsIf (.jrNZ_d d) (s.f.getLsbD 2 = false) (padd s.pc (sext16 d)) s ∧
    JumpsIf (.jrNNEG_d d) (s.f.getLsbD 3 = false) (padd s.pc (sext16 d)) s ∧
    JumpsIf (.jrNPOS_d d) (s.f.getLsbD 4 = false) (padd s.pc (sext16 d)) s ∧
    JumpsIf (.jrNEQ_d d) (s.f.getLsbD 5 = false) (padd s.pc (sext16 d)) s ∧
    JumpsIf (.jrNLT_d d) (s.f.getLsbD 6 = false) (padd s.pc (sext16 d)) s ∧
    JumpsIf (.jrNGT_d d) (s.f.getLsbD 7 = false) (padd s.pc (sext16 d)) s ∧
    (s.b = 1 → exec (.djnz_d d) s = .next { s with b := 0 }) ∧
    (s.b ≠ 1 → exec (.djnz_d d) s = .next { s with b := s.b - 1, pc := padd s.pc (sext16 d) })

/-- O57. CALL nn, CALLR d, CALL DP + d, RET and RETI: A call pushes PC (the address after the call: decision D36, log
37), high byte first, and loads PC with nn, PC + d or DP + d (the sums inside their page, formed from the registers
before the push); RET pops PC, low byte first; RETI pops PC and sets IE and NOSAMPLE, in a handler or not (decision
D35, log 36). Nothing else changes. -/
def Obligations.CallsAndReturns : Prop :=
  ∀ (s : State) (d : Byte) (nn : Word),
    CallsTo (.call_nn nn) s nn ∧ CallsTo (.callr_d d) s (padd s.pc (sext16 d)) ∧
    CallsTo (.callDPd d) s (padd s.dp (sext16 d)) ∧
    (∃ w t, PopsWord s w t ∧ exec .ret s = .next { t with pc := w }) ∧
    (∃ w t, PopsWord s w t ∧ exec .reti s = .next { t with pc := w, ie := true, noSample := true })

/-- O58. OUT, OUTI, OUTD, IN, INI, IND: OUT writes the register, n or the byte read at DP at IO(s); IN loads a
register from IO(s) or writes the byte read there at DP; the block forms then step DP up or down inside its page
(decision D8, log 7). One read and one write at most, in that order; F and everything else is unchanged. A device
answers with a free value and every access to it is recorded (decision D22, log 23). -/
def Obligations.InputOutput : Prop :=
  ∀ (s : State) (n sel : Byte),
    Stores (.outAtS_A sel) s (ioAddress sel) s.a ∧
    Stores (.outAtS_B sel) s (ioAddress sel) s.b ∧
    Stores (.outAtS_C sel) s (ioAddress sel) s.c ∧
    Stores (.outAtS_D sel) s (ioAddress sel) s.d ∧
    Stores (.outAtS_n n sel) s (ioAddress sel) n ∧
    Loads (.inA_atS sel) .A s (ioAddress sel) ∧
    Loads (.inB_atS sel) .B s (ioAddress sel) ∧
    Loads (.inC_atS sel) .C s (ioAddress sel) ∧
    Loads (.inD_atS sel) .D s (ioAddress sel) ∧
    Copies (.outAtS_atDP sel) s s.dp (ioAddress sel) s.dp ∧
    Copies (.outiAtS_atDP sel) s s.dp (ioAddress sel) (padd s.dp 1) ∧
    Copies (.outdAtS_atDP sel) s s.dp (ioAddress sel) (padd s.dp 0xFFFF) ∧
    Copies (.inAtDP_atS sel) s (ioAddress sel) s.dp s.dp ∧
    Copies (.iniAtDP_atS sel) s (ioAddress sel) s.dp (padd s.dp 1) ∧
    Copies (.indAtDP_atS sel) s (ioAddress sel) s.dp (padd s.dp 0xFFFF)

/-- O59. INCIO, DECIO, ANDIO, ORIO, XORIO: Each reads IO(s) once, writes the result back to IO(s), and replaces F by
the eight flags; in the forms with A, A is the first input of the comparison and the byte read the second; nothing
else changes. Decisions D1 to D7 of the spec (log 1 to 6). -/
def Obligations.InputOutputUpdate : Prop :=
  ∀ (s : State) (n sel : Byte),
    AluOnto (.incioAtS sel) .ADD (ioAddress sel) 1 false s ∧
    AluOnto (.decioAtS sel) .SUB (ioAddress sel) 1 false s ∧
    AluOntoFromA (.andioAtS_A sel) .AND (ioAddress sel) s ∧
    AluOnto (.andioAtS_n sel n) .AND (ioAddress sel) n false s ∧
    AluOntoFromA (.orioAtS_A sel) .OR (ioAddress sel) s ∧
    AluOnto (.orioAtS_n sel n) .OR (ioAddress sel) n false s ∧
    AluOntoFromA (.xorioAtS_A sel) .XOR (ioAddress sel) s ∧
    AluOnto (.xorioAtS_n sel n) .XOR (ioAddress sel) n false s

/-- O60. The I/O instructions do what the memory instructions do at IO(s): OUT (s), r does what LD (nn), r does with
nn = IO(s); IN r, (s) what LD r, (nn) does; OUT (s), n what LD (nn), n does; INCIO and DECIO what INC (nn) and DEC
(nn) do; ANDIO, ORIO, XORIO (s), n what AND, OR, XOR (DP), n do when DP = IO(s). -/
def Obligations.InputOutputIsMemory : Prop :=
  ∀ (s : State) (n sel : Byte),
    exec (.outAtS_A sel) s = exec (.ldAtNN_A (ioAddress sel)) s ∧
    exec (.outAtS_B sel) s = exec (.ldAtNN_B (ioAddress sel)) s ∧
    exec (.outAtS_C sel) s = exec (.ldAtNN_C (ioAddress sel)) s ∧
    exec (.outAtS_D sel) s = exec (.ldAtNN_D (ioAddress sel)) s ∧
    exec (.inA_atS sel) s = exec (.ldA_atNN (ioAddress sel)) s ∧
    exec (.inB_atS sel) s = exec (.ldB_atNN (ioAddress sel)) s ∧
    exec (.inC_atS sel) s = exec (.ldC_atNN (ioAddress sel)) s ∧
    exec (.inD_atS sel) s = exec (.ldD_atNN (ioAddress sel)) s ∧
    exec (.outAtS_n n sel) s = exec (.ldAtNN_n n (ioAddress sel)) s ∧
    exec (.incioAtS sel) s = exec (.incAtNN (ioAddress sel)) s ∧
    exec (.decioAtS sel) s = exec (.decAtNN (ioAddress sel)) s ∧
    (s.dp = ioAddress sel →
      exec (.andioAtS_n sel n) s = exec (.andAtDP_n n) s ∧ exec (.orioAtS_n sel n) s = exec (.orAtDP_n n) s ∧
      exec (.xorioAtS_n sel n) s = exec (.xorAtDP_n n) s)
end

