-- ==== Sys2Proof/Laws/Alu.lean ====
section
/-! SUPPORT. The ALU computes what the integers say (42_alu8.md R360 to R367). -/

namespace Sys2Proof.Machine

/-- Reading one flag out of a packed flag byte. -/
theorem flagOf_packFlags (c ov z neg pos eq lt gt : Bool) (x : Flag) :
    flagOf (packFlags c ov z neg pos eq lt gt) x =
      match x with
      | .C => c | .OV => ov | .Z => z | .NEG => neg | .POS => pos | .EQ => eq | .LT => lt | .GT => gt := by
  revert c ov z neg pos eq lt gt
  cases x <;> decide

theorem msb_iff (r : Byte) : r.msb = true ↔ 128 ≤ r.toNat := by
  rw [BitVec.msb_eq_decide]
  simp

/-- The flag byte of an operation, with the carry and the overflow still as the ALU computes them. -/
theorem aluFlags_are (op : AluOp) (arg1 x : Byte) (cin : Bool) :
    FlagsAre (aluFlags op arg1 x cin) (aluCarry op arg1 x cin = true) (aluOverflow op arg1 x cin = true)
      (aluResult op arg1 x cin) arg1.toNat (x.toNat + cin.toNat) := by
  have zero : ∀ r : Byte, (r == 0) = true ↔ r.toNat = 0 := fun r => by
    rw [beq_iff_eq]
    exact ⟨fun h => by rw [h]; rfl, fun h => BitVec.eq_of_toNat_eq (by simpa using h)⟩
  have pos : ∀ r : Byte, (!(r == 0) && !r.msb) = true ↔ 1 ≤ r.toNat ∧ r.toNat ≤ 127 := fun r => by
    have hz := zero r; have hm := msb_iff r
    cases h0 : r == 0 <;> cases h1 : r.msb <;> simp only [h0, h1] at hz hm <;> simp at hz hm ⊢ <;> omega
  constructor <;> simp only [aluFlags, flagOf_packFlags, decide_eq_true_eq, zero, msb_iff, pos] <;> simp only [aluArg2]

/-- What the ALU computes, in integers. -/
theorem alu_does (op : AluOp) (arg1 x : Byte) (cin : Bool) :
    AluDoes op arg1 x cin (alu op arg1 x cin).1 (alu op arg1 x cin).2 := by
  have hf := aluFlags_are op arg1 x cin
  simp only [alu]
  cases op with
  | ADD =>
    refine ⟨by simp [aluResult, aluArg2, Nat.add_assoc], ?_⟩
    simp only [aluCarry, aluOverflow, decide_eq_true_eq, Bool.or_eq_true] at hf
    simpa only [aluSigned, aluArg2, Nat.add_assoc] using hf
  | SUB =>
    refine ⟨?_, ?_⟩
    · simp only [aluResult, aluArg2, BitVec.toNat_ofInt]
      omega
    · simp only [aluCarry, aluOverflow, decide_eq_true_eq, Bool.or_eq_true] at hf
      simpa only [aluSigned, aluArg2] using hf
  | AND => exact ⟨fun k => by simp [aluResult], by simpa [aluCarry, aluOverflow, aluSigned] using hf⟩
  | OR => exact ⟨fun k => by simp [aluResult], by simpa [aluCarry, aluOverflow, aluSigned] using hf⟩
  | XOR => exact ⟨fun k => by simp [aluResult], by simpa [aluCarry, aluOverflow, aluSigned] using hf⟩

end Sys2Proof.Machine
end

