-- ==== Sys2Proof/Laws/Bits.lean ====
section
/-! SUPPORT. The bit helpers in integers: byte order, sign extension, the page-confined add. -/

namespace Sys2Proof.Machine

theorem join16_toNat (hi lo : Byte) : (join16 hi lo).toNat = hi.toNat * 256 + lo.toNat := by
  have := lo.isLt
  simp only [join16, BitVec.toNat_append]
  rw [← Nat.shiftLeft_add_eq_or_of_lt (by omega), Nat.shiftLeft_eq]

theorem lo8_toNat (w : Word) : (lo8 w).toNat = w.toNat % 256 := by
  simp [lo8]

@[simp] theorem lo8_join16 (hi lo : Byte) : lo8 (join16 hi lo) = lo := by
  apply BitVec.eq_of_toNat_eq
  have := lo.isLt
  rw [lo8_toNat, join16_toNat]
  omega

theorem hi8_toNat (w : Word) : (hi8 w).toNat = w.toNat / 256 := by
  have := w.isLt
  simp only [hi8, BitVec.toNat_setWidth, BitVec.toNat_ushiftRight, Nat.shiftRight_eq_div_pow]
  omega

@[simp] theorem hi8_join16 (hi lo : Byte) : hi8 (join16 hi lo) = hi := by
  apply BitVec.eq_of_toNat_eq
  have := hi.isLt; have := lo.isLt
  rw [hi8_toNat, join16_toNat]
  omega

@[simp] theorem join16_hi8_lo8 (w : Word) : join16 (hi8 w) (lo8 w) = w := by
  apply BitVec.eq_of_toNat_eq
  rw [join16_toNat, hi8_toNat, lo8_toNat]
  omega

/-- A word from its high and low byte, in integers. -/
theorem word_eq_hi_lo (w : Word) : w.toNat = (hi8 w).toNat * 256 + (lo8 w).toNat := by
  rw [hi8_toNat, lo8_toNat]
  omega

theorem sext16_toInt (v : Byte) : (sext16 v).toInt = v.toInt := by
  simp only [sext16]
  exact BitVec.toInt_signExtend_of_le (by decide)

theorem zext16_toNat (v : Byte) : (zext16 v).toNat = v.toNat := by
  have := v.isLt
  simp only [zext16, BitVec.toNat_setWidth]
  omega

theorem ioAddress_toNat (s : Byte) : (ioAddress s).toNat = 0x8000 + s.toNat := by
  have := s.isLt
  simp only [ioAddress, BitVec.toNat_add, zext16_toNat]
  simp
  omega

/-- `padd` puts the two top bits of the base over the low 14 bits of the sum. -/
theorem padd_eq_append (r k : Word) : padd r k = pageOf r ++ (r + k).extractLsb' 0 14 := by
  apply BitVec.eq_of_getLsbD_eq
  intro i hi
  simp only [padd, pageOf, BitVec.getLsbD_or, BitVec.getLsbD_and, BitVec.getLsbD_append, BitVec.getLsbD_extractLsb']
  have hC : ∀ i < 16, (0xC000 : Word).getLsbD i = decide (14 ≤ i) := by decide
  have h3 : ∀ i < 16, (0x3FFF : Word).getLsbD i = decide (i < 14) := by decide
  rw [hC i hi, h3 i hi]
  by_cases h : i < 14
  · simp [h, Nat.not_le.mpr h]
  · have : i - 14 < 2 := by omega
    simp [h, Nat.not_lt.mp h, this, show 14 + (i - 14) = i by omega]

theorem pageOf_toNat (r : Word) : (pageOf r).toNat = r.toNat / 16384 := by
  have := r.isLt
  simp only [pageOf, BitVec.extractLsb'_toNat, Nat.shiftRight_eq_div_pow]
  omega

/-- `padd` in integers. -/
theorem padd_toNat (r k : Word) :
    (padd r k).toNat = r.toNat / 16384 * 16384 + (r.toNat + k.toNat) % 16384 := by
  rw [padd_eq_append, BitVec.toNat_append, ← Nat.shiftLeft_add_eq_or_of_lt (BitVec.isLt _), Nat.shiftLeft_eq,
    pageOf_toNat, BitVec.extractLsb'_toNat, BitVec.toNat_add]
  simp only [Nat.shiftRight_zero]
  omega

@[simp] theorem pageOf_padd (r k : Word) : pageOf (padd r k) = pageOf r := by
  apply BitVec.eq_of_toNat_eq
  have := r.isLt
  rw [pageOf_toNat, pageOf_toNat, padd_toNat]
  omega

/-- Steps add up inside the page. -/
theorem padd_padd (r j k : Word) : padd (padd r j) k = padd r (j + k) := by
  apply BitVec.eq_of_toNat_eq
  have := r.isLt
  rw [padd_toNat, padd_toNat, padd_toNat, BitVec.toNat_add]
  omega

@[simp] theorem padd_zero (r : Word) : padd r 0 = r := by
  apply BitVec.eq_of_toNat_eq
  have : (0 : Word).toNat = 0 := rfl
  rw [padd_toNat, this]
  omega

/-- Steps that differ within the page lead to different addresses. -/
theorem padd_ne {r j k : Word} (h : j.toNat % 16384 ≠ k.toNat % 16384) : padd r j ≠ padd r k := by
  intro e
  have e' := congrArg BitVec.toNat e
  rw [padd_toNat, padd_toNat] at e'
  omega

end Sys2Proof.Machine
end

