-- ==== Sys2Proof/Laws/Decode.lean ====
section
/-! SUPPORT. The opcode table against the format ranges of 30_encoding.md R80. -/

namespace Sys2Proof

set_option maxRecDepth 4000 in
/-- Every opcode has a row, of the format that R80 lists for it. -/
theorem rowOf_format_nat :
    ∀ n < 256, (rowOf (BitVec.ofNat 8 n)).map Row.format = some (formatOf (BitVec.ofNat 8 n)) := by
  decide

/-- Every opcode has a row, of the format that R80 lists for it. -/
theorem rowOf_format (opcode : Byte) : (rowOf opcode).map Row.format = some (formatOf opcode) := by
  simpa using rowOf_format_nat opcode.toNat opcode.isLt

/-- The number of operand bytes of an opcode, from its format. -/
theorem operandCount_eq (opcode : Byte) : operandCount opcode + 1 = (formatOf opcode).length := by
  have h := rowOf_format opcode
  unfold operandCount
  cases hr : rowOf opcode with
  | none => simp [hr] at h
  | some row =>
    simp only [hr, Option.map_some, Option.some.injEq] at h
    rw [← h]
    cases row <;> rfl

/-- A row reads its operands from any bytes that are enough of them. -/
theorem Row.read_isSome (row : Row) (bytes : List Byte) (h : row.format.length ≤ bytes.length + 1) :
    ∃ i rest, row.read bytes = some (i, rest) := by
  cases row <;> simp only [Row.format, Format.length] at h <;>
    match bytes, h with
    | [], _ => first | exact ⟨_, _, rfl⟩ | (simp at *)
    | [_], _ => first | exact ⟨_, _, rfl⟩ | (simp at *)
    | [_, _], _ => first | exact ⟨_, _, rfl⟩ | (simp at *)
    | [_, _, _], _ => first | exact ⟨_, _, rfl⟩ | (simp at *)
    | _ :: _ :: _ :: _ :: _, _ => exact ⟨_, _, rfl⟩

end Sys2Proof
end

