-- ==== Sys2Proof/Laws/State.lean ====
section
/-! SUPPORT. One lemma per field per update of the state: what each named update leaves in each field. -/

namespace Sys2Proof.Machine

/-! ### setF -/

@[simp] theorem setF_a (s : State) (v : Byte) : (s.setF v).a = s.a := rfl
@[simp] theorem setF_b (s : State) (v : Byte) : (s.setF v).b = s.b := rfl
@[simp] theorem setF_c (s : State) (v : Byte) : (s.setF v).c = s.c := rfl
@[simp] theorem setF_d (s : State) (v : Byte) : (s.setF v).d = s.d := rfl
@[simp] theorem setF_f (s : State) (v : Byte) : (s.setF v).f = v := rfl
@[simp] theorem setF_pc (s : State) (v : Byte) : (s.setF v).pc = s.pc := rfl
@[simp] theorem setF_sp (s : State) (v : Byte) : (s.setF v).sp = s.sp := rfl
@[simp] theorem setF_dp (s : State) (v : Byte) : (s.setF v).dp = s.dp := rfl
@[simp] theorem setF_ie (s : State) (v : Byte) : (s.setF v).ie = s.ie := rfl
@[simp] theorem setF_noSample (s : State) (v : Byte) : (s.setF v).noSample = s.noSample := rfl
@[simp] theorem setF_mem (s : State) (v : Byte) : (s.setF v).mem = s.mem := rfl
@[simp] theorem setF_memMap (s : State) (v : Byte) : (s.setF v).memMap = s.memMap := rfl
@[simp] theorem setF_busLog (s : State) (v : Byte) : (s.setF v).busLog = s.busLog := rfl
@[simp] theorem setF_inputs (s : State) (v : Byte) : (s.setF v).inputs = s.inputs := rfl
@[simp] theorem setF_cycles (s : State) (v : Byte) : (s.setF v).cycles = s.cycles := rfl

/-! ### setPc -/

@[simp] theorem setPc_a (s : State) (v : Word) : (s.setPc v).a = s.a := rfl
@[simp] theorem setPc_b (s : State) (v : Word) : (s.setPc v).b = s.b := rfl
@[simp] theorem setPc_c (s : State) (v : Word) : (s.setPc v).c = s.c := rfl
@[simp] theorem setPc_d (s : State) (v : Word) : (s.setPc v).d = s.d := rfl
@[simp] theorem setPc_f (s : State) (v : Word) : (s.setPc v).f = s.f := rfl
@[simp] theorem setPc_pc (s : State) (v : Word) : (s.setPc v).pc = v := rfl
@[simp] theorem setPc_sp (s : State) (v : Word) : (s.setPc v).sp = s.sp := rfl
@[simp] theorem setPc_dp (s : State) (v : Word) : (s.setPc v).dp = s.dp := rfl
@[simp] theorem setPc_ie (s : State) (v : Word) : (s.setPc v).ie = s.ie := rfl
@[simp] theorem setPc_noSample (s : State) (v : Word) : (s.setPc v).noSample = s.noSample := rfl
@[simp] theorem setPc_mem (s : State) (v : Word) : (s.setPc v).mem = s.mem := rfl
@[simp] theorem setPc_memMap (s : State) (v : Word) : (s.setPc v).memMap = s.memMap := rfl
@[simp] theorem setPc_busLog (s : State) (v : Word) : (s.setPc v).busLog = s.busLog := rfl
@[simp] theorem setPc_inputs (s : State) (v : Word) : (s.setPc v).inputs = s.inputs := rfl
@[simp] theorem setPc_cycles (s : State) (v : Word) : (s.setPc v).cycles = s.cycles := rfl

/-! ### setSp -/

@[simp] theorem setSp_a (s : State) (v : Word) : (s.setSp v).a = s.a := rfl
@[simp] theorem setSp_b (s : State) (v : Word) : (s.setSp v).b = s.b := rfl
@[simp] theorem setSp_c (s : State) (v : Word) : (s.setSp v).c = s.c := rfl
@[simp] theorem setSp_d (s : State) (v : Word) : (s.setSp v).d = s.d := rfl
@[simp] theorem setSp_f (s : State) (v : Word) : (s.setSp v).f = s.f := rfl
@[simp] theorem setSp_pc (s : State) (v : Word) : (s.setSp v).pc = s.pc := rfl
@[simp] theorem setSp_sp (s : State) (v : Word) : (s.setSp v).sp = v := rfl
@[simp] theorem setSp_dp (s : State) (v : Word) : (s.setSp v).dp = s.dp := rfl
@[simp] theorem setSp_ie (s : State) (v : Word) : (s.setSp v).ie = s.ie := rfl
@[simp] theorem setSp_noSample (s : State) (v : Word) : (s.setSp v).noSample = s.noSample := rfl
@[simp] theorem setSp_mem (s : State) (v : Word) : (s.setSp v).mem = s.mem := rfl
@[simp] theorem setSp_memMap (s : State) (v : Word) : (s.setSp v).memMap = s.memMap := rfl
@[simp] theorem setSp_busLog (s : State) (v : Word) : (s.setSp v).busLog = s.busLog := rfl
@[simp] theorem setSp_inputs (s : State) (v : Word) : (s.setSp v).inputs = s.inputs := rfl
@[simp] theorem setSp_cycles (s : State) (v : Word) : (s.setSp v).cycles = s.cycles := rfl

/-! ### setDp -/

@[simp] theorem setDp_a (s : State) (v : Word) : (s.setDp v).a = s.a := rfl
@[simp] theorem setDp_b (s : State) (v : Word) : (s.setDp v).b = s.b := rfl
@[simp] theorem setDp_c (s : State) (v : Word) : (s.setDp v).c = s.c := rfl
@[simp] theorem setDp_d (s : State) (v : Word) : (s.setDp v).d = s.d := rfl
@[simp] theorem setDp_f (s : State) (v : Word) : (s.setDp v).f = s.f := rfl
@[simp] theorem setDp_pc (s : State) (v : Word) : (s.setDp v).pc = s.pc := rfl
@[simp] theorem setDp_sp (s : State) (v : Word) : (s.setDp v).sp = s.sp := rfl
@[simp] theorem setDp_dp (s : State) (v : Word) : (s.setDp v).dp = v := rfl
@[simp] theorem setDp_ie (s : State) (v : Word) : (s.setDp v).ie = s.ie := rfl
@[simp] theorem setDp_noSample (s : State) (v : Word) : (s.setDp v).noSample = s.noSample := rfl
@[simp] theorem setDp_mem (s : State) (v : Word) : (s.setDp v).mem = s.mem := rfl
@[simp] theorem setDp_memMap (s : State) (v : Word) : (s.setDp v).memMap = s.memMap := rfl
@[simp] theorem setDp_busLog (s : State) (v : Word) : (s.setDp v).busLog = s.busLog := rfl
@[simp] theorem setDp_inputs (s : State) (v : Word) : (s.setDp v).inputs = s.inputs := rfl
@[simp] theorem setDp_cycles (s : State) (v : Word) : (s.setDp v).cycles = s.cycles := rfl

/-! ### setIe -/

@[simp] theorem setIe_a (s : State) (v : Bool) : (s.setIe v).a = s.a := rfl
@[simp] theorem setIe_b (s : State) (v : Bool) : (s.setIe v).b = s.b := rfl
@[simp] theorem setIe_c (s : State) (v : Bool) : (s.setIe v).c = s.c := rfl
@[simp] theorem setIe_d (s : State) (v : Bool) : (s.setIe v).d = s.d := rfl
@[simp] theorem setIe_f (s : State) (v : Bool) : (s.setIe v).f = s.f := rfl
@[simp] theorem setIe_pc (s : State) (v : Bool) : (s.setIe v).pc = s.pc := rfl
@[simp] theorem setIe_sp (s : State) (v : Bool) : (s.setIe v).sp = s.sp := rfl
@[simp] theorem setIe_dp (s : State) (v : Bool) : (s.setIe v).dp = s.dp := rfl
@[simp] theorem setIe_ie (s : State) (v : Bool) : (s.setIe v).ie = v := rfl
@[simp] theorem setIe_noSample (s : State) (v : Bool) : (s.setIe v).noSample = s.noSample := rfl
@[simp] theorem setIe_mem (s : State) (v : Bool) : (s.setIe v).mem = s.mem := rfl
@[simp] theorem setIe_memMap (s : State) (v : Bool) : (s.setIe v).memMap = s.memMap := rfl
@[simp] theorem setIe_busLog (s : State) (v : Bool) : (s.setIe v).busLog = s.busLog := rfl
@[simp] theorem setIe_inputs (s : State) (v : Bool) : (s.setIe v).inputs = s.inputs := rfl
@[simp] theorem setIe_cycles (s : State) (v : Bool) : (s.setIe v).cycles = s.cycles := rfl

/-! ### setNoSample -/

@[simp] theorem setNoSample_a (s : State) (v : Bool) : (s.setNoSample v).a = s.a := rfl
@[simp] theorem setNoSample_b (s : State) (v : Bool) : (s.setNoSample v).b = s.b := rfl
@[simp] theorem setNoSample_c (s : State) (v : Bool) : (s.setNoSample v).c = s.c := rfl
@[simp] theorem setNoSample_d (s : State) (v : Bool) : (s.setNoSample v).d = s.d := rfl
@[simp] theorem setNoSample_f (s : State) (v : Bool) : (s.setNoSample v).f = s.f := rfl
@[simp] theorem setNoSample_pc (s : State) (v : Bool) : (s.setNoSample v).pc = s.pc := rfl
@[simp] theorem setNoSample_sp (s : State) (v : Bool) : (s.setNoSample v).sp = s.sp := rfl
@[simp] theorem setNoSample_dp (s : State) (v : Bool) : (s.setNoSample v).dp = s.dp := rfl
@[simp] theorem setNoSample_ie (s : State) (v : Bool) : (s.setNoSample v).ie = s.ie := rfl
@[simp] theorem setNoSample_noSample (s : State) (v : Bool) : (s.setNoSample v).noSample = v := rfl
@[simp] theorem setNoSample_mem (s : State) (v : Bool) : (s.setNoSample v).mem = s.mem := rfl
@[simp] theorem setNoSample_memMap (s : State) (v : Bool) : (s.setNoSample v).memMap = s.memMap := rfl
@[simp] theorem setNoSample_busLog (s : State) (v : Bool) : (s.setNoSample v).busLog = s.busLog := rfl
@[simp] theorem setNoSample_inputs (s : State) (v : Bool) : (s.setNoSample v).inputs = s.inputs := rfl
@[simp] theorem setNoSample_cycles (s : State) (v : Bool) : (s.setNoSample v).cycles = s.cycles := rfl

/-! ### setAB -/

@[simp] theorem setAB_a (s : State) (v : Word) : (s.setAB v).a = lo8 v := rfl
@[simp] theorem setAB_b (s : State) (v : Word) : (s.setAB v).b = hi8 v := rfl
@[simp] theorem setAB_c (s : State) (v : Word) : (s.setAB v).c = s.c := rfl
@[simp] theorem setAB_d (s : State) (v : Word) : (s.setAB v).d = s.d := rfl
@[simp] theorem setAB_f (s : State) (v : Word) : (s.setAB v).f = s.f := rfl
@[simp] theorem setAB_pc (s : State) (v : Word) : (s.setAB v).pc = s.pc := rfl
@[simp] theorem setAB_sp (s : State) (v : Word) : (s.setAB v).sp = s.sp := rfl
@[simp] theorem setAB_dp (s : State) (v : Word) : (s.setAB v).dp = s.dp := rfl
@[simp] theorem setAB_ie (s : State) (v : Word) : (s.setAB v).ie = s.ie := rfl
@[simp] theorem setAB_noSample (s : State) (v : Word) : (s.setAB v).noSample = s.noSample := rfl
@[simp] theorem setAB_mem (s : State) (v : Word) : (s.setAB v).mem = s.mem := rfl
@[simp] theorem setAB_memMap (s : State) (v : Word) : (s.setAB v).memMap = s.memMap := rfl
@[simp] theorem setAB_busLog (s : State) (v : Word) : (s.setAB v).busLog = s.busLog := rfl
@[simp] theorem setAB_inputs (s : State) (v : Word) : (s.setAB v).inputs = s.inputs := rfl
@[simp] theorem setAB_cycles (s : State) (v : Word) : (s.setAB v).cycles = s.cycles := rfl

/-! ### setCD -/

@[simp] theorem setCD_a (s : State) (v : Word) : (s.setCD v).a = s.a := rfl
@[simp] theorem setCD_b (s : State) (v : Word) : (s.setCD v).b = s.b := rfl
@[simp] theorem setCD_c (s : State) (v : Word) : (s.setCD v).c = lo8 v := rfl
@[simp] theorem setCD_d (s : State) (v : Word) : (s.setCD v).d = hi8 v := rfl
@[simp] theorem setCD_f (s : State) (v : Word) : (s.setCD v).f = s.f := rfl
@[simp] theorem setCD_pc (s : State) (v : Word) : (s.setCD v).pc = s.pc := rfl
@[simp] theorem setCD_sp (s : State) (v : Word) : (s.setCD v).sp = s.sp := rfl
@[simp] theorem setCD_dp (s : State) (v : Word) : (s.setCD v).dp = s.dp := rfl
@[simp] theorem setCD_ie (s : State) (v : Word) : (s.setCD v).ie = s.ie := rfl
@[simp] theorem setCD_noSample (s : State) (v : Word) : (s.setCD v).noSample = s.noSample := rfl
@[simp] theorem setCD_mem (s : State) (v : Word) : (s.setCD v).mem = s.mem := rfl
@[simp] theorem setCD_memMap (s : State) (v : Word) : (s.setCD v).memMap = s.memMap := rfl
@[simp] theorem setCD_busLog (s : State) (v : Word) : (s.setCD v).busLog = s.busLog := rfl
@[simp] theorem setCD_inputs (s : State) (v : Word) : (s.setCD v).inputs = s.inputs := rfl
@[simp] theorem setCD_cycles (s : State) (v : Word) : (s.setCD v).cycles = s.cycles := rfl

/-! ### record -/

@[simp] theorem record_a (s : State) (x : Config.BusAccess) : (s.record x).a = s.a := rfl
@[simp] theorem record_b (s : State) (x : Config.BusAccess) : (s.record x).b = s.b := rfl
@[simp] theorem record_c (s : State) (x : Config.BusAccess) : (s.record x).c = s.c := rfl
@[simp] theorem record_d (s : State) (x : Config.BusAccess) : (s.record x).d = s.d := rfl
@[simp] theorem record_f (s : State) (x : Config.BusAccess) : (s.record x).f = s.f := rfl
@[simp] theorem record_pc (s : State) (x : Config.BusAccess) : (s.record x).pc = s.pc := rfl
@[simp] theorem record_sp (s : State) (x : Config.BusAccess) : (s.record x).sp = s.sp := rfl
@[simp] theorem record_dp (s : State) (x : Config.BusAccess) : (s.record x).dp = s.dp := rfl
@[simp] theorem record_ie (s : State) (x : Config.BusAccess) : (s.record x).ie = s.ie := rfl
@[simp] theorem record_noSample (s : State) (x : Config.BusAccess) : (s.record x).noSample = s.noSample := rfl
@[simp] theorem record_mem (s : State) (x : Config.BusAccess) : (s.record x).mem = s.mem := rfl
@[simp] theorem record_memMap (s : State) (x : Config.BusAccess) : (s.record x).memMap = s.memMap := rfl
@[simp] theorem record_busLog (s : State) (x : Config.BusAccess) : (s.record x).busLog = x :: s.busLog := rfl
@[simp] theorem record_inputs (s : State) (x : Config.BusAccess) : (s.record x).inputs = s.inputs := rfl
@[simp] theorem record_cycles (s : State) (x : Config.BusAccess) : (s.record x).cycles = s.cycles := rfl

/-! ### store -/

@[simp] theorem store_a (s : State) (x : Word) (v : Byte) : (s.store x v).a = s.a := rfl
@[simp] theorem store_b (s : State) (x : Word) (v : Byte) : (s.store x v).b = s.b := rfl
@[simp] theorem store_c (s : State) (x : Word) (v : Byte) : (s.store x v).c = s.c := rfl
@[simp] theorem store_d (s : State) (x : Word) (v : Byte) : (s.store x v).d = s.d := rfl
@[simp] theorem store_f (s : State) (x : Word) (v : Byte) : (s.store x v).f = s.f := rfl
@[simp] theorem store_pc (s : State) (x : Word) (v : Byte) : (s.store x v).pc = s.pc := rfl
@[simp] theorem store_sp (s : State) (x : Word) (v : Byte) : (s.store x v).sp = s.sp := rfl
@[simp] theorem store_dp (s : State) (x : Word) (v : Byte) : (s.store x v).dp = s.dp := rfl
@[simp] theorem store_ie (s : State) (x : Word) (v : Byte) : (s.store x v).ie = s.ie := rfl
@[simp] theorem store_noSample (s : State) (x : Word) (v : Byte) : (s.store x v).noSample = s.noSample := rfl
@[simp] theorem store_mem (s : State) (x : Word) (v : Byte) : (s.store x v).mem = s.mem.write x v := rfl
@[simp] theorem store_memMap (s : State) (x : Word) (v : Byte) : (s.store x v).memMap = s.memMap := rfl
@[simp] theorem store_busLog (s : State) (x : Word) (v : Byte) : (s.store x v).busLog = s.busLog := rfl
@[simp] theorem store_inputs (s : State) (x : Word) (v : Byte) : (s.store x v).inputs = s.inputs := rfl
@[simp] theorem store_cycles (s : State) (x : Word) (v : Byte) : (s.store x v).cycles = s.cycles := rfl

/-! ### dropInput -/

@[simp] theorem dropInput_a (s : State) : (s.dropInput).a = s.a := rfl
@[simp] theorem dropInput_b (s : State) : (s.dropInput).b = s.b := rfl
@[simp] theorem dropInput_c (s : State) : (s.dropInput).c = s.c := rfl
@[simp] theorem dropInput_d (s : State) : (s.dropInput).d = s.d := rfl
@[simp] theorem dropInput_f (s : State) : (s.dropInput).f = s.f := rfl
@[simp] theorem dropInput_pc (s : State) : (s.dropInput).pc = s.pc := rfl
@[simp] theorem dropInput_sp (s : State) : (s.dropInput).sp = s.sp := rfl
@[simp] theorem dropInput_dp (s : State) : (s.dropInput).dp = s.dp := rfl
@[simp] theorem dropInput_ie (s : State) : (s.dropInput).ie = s.ie := rfl
@[simp] theorem dropInput_noSample (s : State) : (s.dropInput).noSample = s.noSample := rfl
@[simp] theorem dropInput_mem (s : State) : (s.dropInput).mem = s.mem := rfl
@[simp] theorem dropInput_memMap (s : State) : (s.dropInput).memMap = s.memMap := rfl
@[simp] theorem dropInput_busLog (s : State) : (s.dropInput).busLog = s.busLog := rfl
@[simp] theorem dropInput_inputs (s : State) : (s.dropInput).inputs = s.inputs.tail := rfl
@[simp] theorem dropInput_cycles (s : State) : (s.dropInput).cycles = s.cycles := rfl

/-! ### addCycles -/

@[simp] theorem addCycles_a (s : State) (k : Nat) : (s.addCycles k).a = s.a := rfl
@[simp] theorem addCycles_b (s : State) (k : Nat) : (s.addCycles k).b = s.b := rfl
@[simp] theorem addCycles_c (s : State) (k : Nat) : (s.addCycles k).c = s.c := rfl
@[simp] theorem addCycles_d (s : State) (k : Nat) : (s.addCycles k).d = s.d := rfl
@[simp] theorem addCycles_f (s : State) (k : Nat) : (s.addCycles k).f = s.f := rfl
@[simp] theorem addCycles_pc (s : State) (k : Nat) : (s.addCycles k).pc = s.pc := rfl
@[simp] theorem addCycles_sp (s : State) (k : Nat) : (s.addCycles k).sp = s.sp := rfl
@[simp] theorem addCycles_dp (s : State) (k : Nat) : (s.addCycles k).dp = s.dp := rfl
@[simp] theorem addCycles_ie (s : State) (k : Nat) : (s.addCycles k).ie = s.ie := rfl
@[simp] theorem addCycles_noSample (s : State) (k : Nat) : (s.addCycles k).noSample = s.noSample := rfl
@[simp] theorem addCycles_mem (s : State) (k : Nat) : (s.addCycles k).mem = s.mem := rfl
@[simp] theorem addCycles_memMap (s : State) (k : Nat) : (s.addCycles k).memMap = s.memMap := rfl
@[simp] theorem addCycles_busLog (s : State) (k : Nat) : (s.addCycles k).busLog = s.busLog := rfl
@[simp] theorem addCycles_inputs (s : State) (k : Nat) : (s.addCycles k).inputs = s.inputs := rfl
@[simp] theorem addCycles_cycles (s : State) (k : Nat) : (s.addCycles k).cycles = s.cycles + k := rfl

/-! ### setReg_A -/

@[simp] theorem setReg_A_a (s : State) (v : Byte) : (s.setReg .A v).a = v := rfl
@[simp] theorem setReg_A_b (s : State) (v : Byte) : (s.setReg .A v).b = s.b := rfl
@[simp] theorem setReg_A_c (s : State) (v : Byte) : (s.setReg .A v).c = s.c := rfl
@[simp] theorem setReg_A_d (s : State) (v : Byte) : (s.setReg .A v).d = s.d := rfl
@[simp] theorem setReg_A_f (s : State) (v : Byte) : (s.setReg .A v).f = s.f := rfl
@[simp] theorem setReg_A_pc (s : State) (v : Byte) : (s.setReg .A v).pc = s.pc := rfl
@[simp] theorem setReg_A_sp (s : State) (v : Byte) : (s.setReg .A v).sp = s.sp := rfl
@[simp] theorem setReg_A_dp (s : State) (v : Byte) : (s.setReg .A v).dp = s.dp := rfl
@[simp] theorem setReg_A_ie (s : State) (v : Byte) : (s.setReg .A v).ie = s.ie := rfl
@[simp] theorem setReg_A_noSample (s : State) (v : Byte) : (s.setReg .A v).noSample = s.noSample := rfl
@[simp] theorem setReg_A_mem (s : State) (v : Byte) : (s.setReg .A v).mem = s.mem := rfl
@[simp] theorem setReg_A_memMap (s : State) (v : Byte) : (s.setReg .A v).memMap = s.memMap := rfl
@[simp] theorem setReg_A_busLog (s : State) (v : Byte) : (s.setReg .A v).busLog = s.busLog := rfl
@[simp] theorem setReg_A_inputs (s : State) (v : Byte) : (s.setReg .A v).inputs = s.inputs := rfl
@[simp] theorem setReg_A_cycles (s : State) (v : Byte) : (s.setReg .A v).cycles = s.cycles := rfl

/-! ### setReg_B -/

@[simp] theorem setReg_B_a (s : State) (v : Byte) : (s.setReg .B v).a = s.a := rfl
@[simp] theorem setReg_B_b (s : State) (v : Byte) : (s.setReg .B v).b = v := rfl
@[simp] theorem setReg_B_c (s : State) (v : Byte) : (s.setReg .B v).c = s.c := rfl
@[simp] theorem setReg_B_d (s : State) (v : Byte) : (s.setReg .B v).d = s.d := rfl
@[simp] theorem setReg_B_f (s : State) (v : Byte) : (s.setReg .B v).f = s.f := rfl
@[simp] theorem setReg_B_pc (s : State) (v : Byte) : (s.setReg .B v).pc = s.pc := rfl
@[simp] theorem setReg_B_sp (s : State) (v : Byte) : (s.setReg .B v).sp = s.sp := rfl
@[simp] theorem setReg_B_dp (s : State) (v : Byte) : (s.setReg .B v).dp = s.dp := rfl
@[simp] theorem setReg_B_ie (s : State) (v : Byte) : (s.setReg .B v).ie = s.ie := rfl
@[simp] theorem setReg_B_noSample (s : State) (v : Byte) : (s.setReg .B v).noSample = s.noSample := rfl
@[simp] theorem setReg_B_mem (s : State) (v : Byte) : (s.setReg .B v).mem = s.mem := rfl
@[simp] theorem setReg_B_memMap (s : State) (v : Byte) : (s.setReg .B v).memMap = s.memMap := rfl
@[simp] theorem setReg_B_busLog (s : State) (v : Byte) : (s.setReg .B v).busLog = s.busLog := rfl
@[simp] theorem setReg_B_inputs (s : State) (v : Byte) : (s.setReg .B v).inputs = s.inputs := rfl
@[simp] theorem setReg_B_cycles (s : State) (v : Byte) : (s.setReg .B v).cycles = s.cycles := rfl

/-! ### setReg_C -/

@[simp] theorem setReg_C_a (s : State) (v : Byte) : (s.setReg .C v).a = s.a := rfl
@[simp] theorem setReg_C_b (s : State) (v : Byte) : (s.setReg .C v).b = s.b := rfl
@[simp] theorem setReg_C_c (s : State) (v : Byte) : (s.setReg .C v).c = v := rfl
@[simp] theorem setReg_C_d (s : State) (v : Byte) : (s.setReg .C v).d = s.d := rfl
@[simp] theorem setReg_C_f (s : State) (v : Byte) : (s.setReg .C v).f = s.f := rfl
@[simp] theorem setReg_C_pc (s : State) (v : Byte) : (s.setReg .C v).pc = s.pc := rfl
@[simp] theorem setReg_C_sp (s : State) (v : Byte) : (s.setReg .C v).sp = s.sp := rfl
@[simp] theorem setReg_C_dp (s : State) (v : Byte) : (s.setReg .C v).dp = s.dp := rfl
@[simp] theorem setReg_C_ie (s : State) (v : Byte) : (s.setReg .C v).ie = s.ie := rfl
@[simp] theorem setReg_C_noSample (s : State) (v : Byte) : (s.setReg .C v).noSample = s.noSample := rfl
@[simp] theorem setReg_C_mem (s : State) (v : Byte) : (s.setReg .C v).mem = s.mem := rfl
@[simp] theorem setReg_C_memMap (s : State) (v : Byte) : (s.setReg .C v).memMap = s.memMap := rfl
@[simp] theorem setReg_C_busLog (s : State) (v : Byte) : (s.setReg .C v).busLog = s.busLog := rfl
@[simp] theorem setReg_C_inputs (s : State) (v : Byte) : (s.setReg .C v).inputs = s.inputs := rfl
@[simp] theorem setReg_C_cycles (s : State) (v : Byte) : (s.setReg .C v).cycles = s.cycles := rfl

/-! ### setReg_D -/

@[simp] theorem setReg_D_a (s : State) (v : Byte) : (s.setReg .D v).a = s.a := rfl
@[simp] theorem setReg_D_b (s : State) (v : Byte) : (s.setReg .D v).b = s.b := rfl
@[simp] theorem setReg_D_c (s : State) (v : Byte) : (s.setReg .D v).c = s.c := rfl
@[simp] theorem setReg_D_d (s : State) (v : Byte) : (s.setReg .D v).d = v := rfl
@[simp] theorem setReg_D_f (s : State) (v : Byte) : (s.setReg .D v).f = s.f := rfl
@[simp] theorem setReg_D_pc (s : State) (v : Byte) : (s.setReg .D v).pc = s.pc := rfl
@[simp] theorem setReg_D_sp (s : State) (v : Byte) : (s.setReg .D v).sp = s.sp := rfl
@[simp] theorem setReg_D_dp (s : State) (v : Byte) : (s.setReg .D v).dp = s.dp := rfl
@[simp] theorem setReg_D_ie (s : State) (v : Byte) : (s.setReg .D v).ie = s.ie := rfl
@[simp] theorem setReg_D_noSample (s : State) (v : Byte) : (s.setReg .D v).noSample = s.noSample := rfl
@[simp] theorem setReg_D_mem (s : State) (v : Byte) : (s.setReg .D v).mem = s.mem := rfl
@[simp] theorem setReg_D_memMap (s : State) (v : Byte) : (s.setReg .D v).memMap = s.memMap := rfl
@[simp] theorem setReg_D_busLog (s : State) (v : Byte) : (s.setReg .D v).busLog = s.busLog := rfl
@[simp] theorem setReg_D_inputs (s : State) (v : Byte) : (s.setReg .D v).inputs = s.inputs := rfl
@[simp] theorem setReg_D_cycles (s : State) (v : Byte) : (s.setReg .D v).cycles = s.cycles := rfl

/-! ### setReg of any register -/

@[simp] theorem setReg_f (s : State) (r : Reg) (v : Byte) : (s.setReg r v).f = s.f := by
  cases r <;> rfl
@[simp] theorem setReg_pc (s : State) (r : Reg) (v : Byte) : (s.setReg r v).pc = s.pc := by
  cases r <;> rfl
@[simp] theorem setReg_sp (s : State) (r : Reg) (v : Byte) : (s.setReg r v).sp = s.sp := by
  cases r <;> rfl
@[simp] theorem setReg_dp (s : State) (r : Reg) (v : Byte) : (s.setReg r v).dp = s.dp := by
  cases r <;> rfl
@[simp] theorem setReg_ie (s : State) (r : Reg) (v : Byte) : (s.setReg r v).ie = s.ie := by
  cases r <;> rfl
@[simp] theorem setReg_noSample (s : State) (r : Reg) (v : Byte) : (s.setReg r v).noSample = s.noSample := by
  cases r <;> rfl
@[simp] theorem setReg_mem (s : State) (r : Reg) (v : Byte) : (s.setReg r v).mem = s.mem := by
  cases r <;> rfl
@[simp] theorem setReg_memMap (s : State) (r : Reg) (v : Byte) : (s.setReg r v).memMap = s.memMap := by
  cases r <;> rfl
@[simp] theorem setReg_busLog (s : State) (r : Reg) (v : Byte) : (s.setReg r v).busLog = s.busLog := by
  cases r <;> rfl
@[simp] theorem setReg_inputs (s : State) (r : Reg) (v : Byte) : (s.setReg r v).inputs = s.inputs := by
  cases r <;> rfl
@[simp] theorem setReg_cycles (s : State) (r : Reg) (v : Byte) : (s.setReg r v).cycles = s.cycles := by
  cases r <;> rfl

@[simp] theorem reg_setReg (s : State) (r : Reg) (v : Byte) : (s.setReg r v).reg r = v := by
  cases r <;> rfl

theorem reg_setReg_ne (s : State) {r q : Reg} (v : Byte) (h : q ≠ r) : (s.setReg r v).reg q = s.reg q := by
  cases r <;> cases q <;> first | rfl | exact absurd rfl h

/-! ### resetOp -/

/-- The reset sequence, written out (70_reset_and_hazards.md R480). -/
theorem resetOp_eq (s : State) :
    resetOp s = { s with a := 0, b := 0, c := 0, d := 0, f := 0x24, pc := 0, sp := 0xFFFF, dp := 0x8080, ie := false,
                         noSample := false } := rfl

/-- What is behind an address depends on the map alone. -/
theorem kindAt_congr {s t : State} (h : t.memMap = s.memMap) (x : Word) : t.kindAt x = s.kindAt x := by
  simp only [State.kindAt, h]

/-- The byte stored at an address depends on memory alone. -/
theorem stored_congr {s t : State} (h : t.mem = s.mem) (x : Word) : t.stored x = s.stored x := by
  simp only [State.stored, h]

end Sys2Proof.Machine
end

