-- ==== Sys2Proof/Laws/Memory.lean ====
section
/-! SUPPORT. Memory: reading after writing, and every operation keeps the canonical form (log 43). -/

namespace Sys2Proof.Machine

theorem cellAt_putCell_same (l : List Host.Cell) (x : Nat) (v : Byte) : cellAt (putCell l x v) x = some v := by
  induction l with
  | nil => simp [putCell, cellAt]
  | cons c rest ih =>
    obtain ⟨b, w⟩ := c
    simp only [putCell]
    split
    · simp [cellAt]
    · split
      · simp [cellAt]
      · rename_i h
        simp only [cellAt, ih, if_neg (Ne.symm h)]

theorem cellAt_putCell_ne (l : List Host.Cell) {x y : Nat} (v : Byte) (h : y ≠ x) :
    cellAt (putCell l x v) y = cellAt l y := by
  induction l with
  | nil => simp [putCell, cellAt, Ne.symm h]
  | cons c rest ih =>
    obtain ⟨b, w⟩ := c
    simp only [putCell]
    split
    · simp [cellAt, Ne.symm h]
    · split
      · rename_i h'
        subst h'
        simp [cellAt, Ne.symm h]
      · simp only [cellAt, ih]

/-- Every cell of a canonical list after the first lies above it, and all lie below 65536. -/
theorem cellsWellFormed_cons {c : Host.Cell} {l : List Host.Cell} :
    cellsWellFormed (c :: l) = true ↔ c.1 < 65536 ∧ (∀ e ∈ l.head?, c.1 < e.1) ∧ cellsWellFormed l = true := by
  induction l generalizing c with
  | nil => simp [cellsWellFormed]
  | cons d rest ih =>
    have key := ih (c := d)
    simp only [cellsWellFormed, Bool.and_eq_true, decide_eq_true_eq, List.head?_cons, Option.mem_def, Option.some.injEq,
      forall_eq']
    constructor
    · rintro ⟨h, hd⟩
      have := (key.mp hd).1
      exact ⟨by omega, h, hd⟩
    · rintro ⟨_, h, hd⟩
      exact ⟨h, hd⟩

theorem head?_putCell (l : List Host.Cell) (x : Nat) (v : Byte) :
    ∀ e ∈ (putCell l x v).head?, e.1 = x ∨ ∃ c ∈ l.head?, e.1 = c.1 := by
  cases l with
  | nil => simp [putCell]
  | cons c rest =>
    obtain ⟨b, w⟩ := c
    simp only [putCell]
    split
    · simp
    · split <;> simp

theorem cellsWellFormed_putCell (l : List Host.Cell) {x : Nat} (v : Byte) (hx : x < 65536)
    (h : cellsWellFormed l = true) : cellsWellFormed (putCell l x v) = true := by
  induction l with
  | nil => simp [putCell, cellsWellFormed, hx]
  | cons c rest ih =>
    obtain ⟨b, w⟩ := c
    obtain ⟨hb, hlt, hr⟩ := cellsWellFormed_cons.mp h
    simp only [putCell]
    split
    · exact cellsWellFormed_cons.mpr ⟨hx, by simpa using ‹x < b›, h⟩
    · split
      · subst_vars
        exact cellsWellFormed_cons.mpr ⟨hx, hlt, hr⟩
      · refine cellsWellFormed_cons.mpr ⟨hb, fun e he => ?_, ih hr⟩
        obtain hx' | ⟨c, hc, hc'⟩ := head?_putCell rest x v e he
        · simp only [hx'] at *; omega
        · have := hlt c hc; simp only [hc'] at *; omega

theorem Memory.read?_write_same (m : Memory) (x : Word) (v : Byte) : (m.write x v).read? x = some v :=
  cellAt_putCell_same _ _ _

theorem Memory.read?_write_ne (m : Memory) {x y : Word} (v : Byte) (h : y ≠ x) : (m.write x v).read? y = m.read? y :=
  cellAt_putCell_ne _ _ fun e => h (BitVec.eq_of_toNat_eq e)

/-- A write keeps the canonical form. -/
theorem Memory.wf_write (m : Memory) (x : Word) (v : Byte) (h : m.wf = true) : (m.write x v).wf = true :=
  cellsWellFormed_putCell _ _ x.isLt h

@[simp] theorem stored_store_same (s : State) (x : Word) (v : Byte) : (s.store x v).stored x = v := by
  simp [State.stored, Memory.read?_write_same]

theorem stored_store_ne (s : State) {x y : Word} (v : Byte) (h : y ≠ x) : (s.store x v).stored y = s.stored y := by
  simp [State.stored, Memory.read?_write_ne _ _ h]

end Sys2Proof.Machine
end

