-- ==== Sys2Proof/Laws/Ops.lean ====
section
/-! SUPPORT. What each shared operation over memory and the stack can do, said once, and what it keeps. -/

namespace Sys2Proof.Machine

/-! ### One access -/

/-- A read does what `ReadsByte` says. -/
theorem memRead_reads (s : State) (ea : Word) : ReadsByte s ea (s.memRead ea).1 (s.memRead ea).2 := by
  unfold ReadsByte State.memRead
  cases s.kindAt ea <;> exact ⟨rfl, rfl⟩

/-- What is read, and the state after, are determined. -/
theorem readsByte_iff (s : State) (ea : Word) (v : Byte) (t : State) :
    ReadsByte s ea v t ↔ v = (s.memRead ea).1 ∧ t = (s.memRead ea).2 := by
  unfold ReadsByte State.memRead
  cases s.kindAt ea <;> constructor <;> rintro ⟨rfl, rfl⟩ <;> exact ⟨rfl, rfl⟩

/-- A write does what `WritesByte` says. -/
theorem memWrite_writes (s : State) (ea : Word) (v : Byte) : WritesByte s ea v (s.memWrite ea v) := by
  unfold WritesByte State.memWrite
  cases s.kindAt ea
  · exact ⟨rfl, fun x hx => stored_store_ne s v hx, stored_store_same s ea v, rfl⟩
  · exact ⟨rfl, fun x hx => stored_store_ne s _ hx, stored_store_same s ea _, rfl⟩
  · exact ⟨rfl, fun _ _ => rfl, rfl, rfl⟩
  · exact ⟨rfl, fun _ _ => rfl, rfl, rfl⟩

/-- A read changes nothing but the record of accesses. -/
theorem memRead_frame (s : State) (ea : Word) :
    (s.memRead ea).2 = { s with busLog := (s.memRead ea).2.busLog } := by
  unfold State.memRead
  cases s.kindAt ea <;> rfl

/-- A write changes nothing but memory and the record of accesses. -/
theorem memWrite_frame (s : State) (ea : Word) (v : Byte) :
    s.memWrite ea v = { s with mem := (s.memWrite ea v).mem, busLog := (s.memWrite ea v).busLog } :=
  (memWrite_writes s ea v).1

theorem readThen_eq (s : State) (ea : Word) (k : Byte → State → State) :
    s.readThen ea k = k (s.memRead ea).1 (s.memRead ea).2 := rfl

/-- A read of RAM or ROM delivers the stored byte and changes nothing. -/
theorem memRead_stored (s : State) (ea : Word) (h : s.kindAt ea = .ram ∨ s.kindAt ea = .rom) :
    s.memRead ea = (s.stored ea, s) := by
  unfold State.memRead
  rcases h with h | h <;> rw [h]

/-- A write to RAM stores the byte. -/
theorem memWrite_ram (s : State) (ea : Word) (v : Byte) (h : s.kindAt ea = .ram) : s.memWrite ea v = s.store ea v := by
  unfold State.memWrite
  rw [h]

/-! ### Fields an access leaves alone -/

section
variable (s : State) (ea : Word) (v : Byte)

@[simp] theorem memRead_a : (s.memRead ea).2.a = s.a := by rw [memRead_frame]
@[simp] theorem memRead_b : (s.memRead ea).2.b = s.b := by rw [memRead_frame]
@[simp] theorem memRead_c : (s.memRead ea).2.c = s.c := by rw [memRead_frame]
@[simp] theorem memRead_d : (s.memRead ea).2.d = s.d := by rw [memRead_frame]
@[simp] theorem memRead_f : (s.memRead ea).2.f = s.f := by rw [memRead_frame]
@[simp] theorem memRead_pc : (s.memRead ea).2.pc = s.pc := by rw [memRead_frame]
@[simp] theorem memRead_sp : (s.memRead ea).2.sp = s.sp := by rw [memRead_frame]
@[simp] theorem memRead_dp : (s.memRead ea).2.dp = s.dp := by rw [memRead_frame]
@[simp] theorem memRead_ie : (s.memRead ea).2.ie = s.ie := by rw [memRead_frame]
@[simp] theorem memRead_noSample : (s.memRead ea).2.noSample = s.noSample := by rw [memRead_frame]
@[simp] theorem memRead_mem : (s.memRead ea).2.mem = s.mem := by rw [memRead_frame]
@[simp] theorem memRead_memMap : (s.memRead ea).2.memMap = s.memMap := by rw [memRead_frame]
@[simp] theorem memRead_inputs : (s.memRead ea).2.inputs = s.inputs := by rw [memRead_frame]
@[simp] theorem memRead_cycles : (s.memRead ea).2.cycles = s.cycles := by rw [memRead_frame]

@[simp] theorem memWrite_a : (s.memWrite ea v).a = s.a := by rw [memWrite_frame]
@[simp] theorem memWrite_b : (s.memWrite ea v).b = s.b := by rw [memWrite_frame]
@[simp] theorem memWrite_c : (s.memWrite ea v).c = s.c := by rw [memWrite_frame]
@[simp] theorem memWrite_d : (s.memWrite ea v).d = s.d := by rw [memWrite_frame]
@[simp] theorem memWrite_f : (s.memWrite ea v).f = s.f := by rw [memWrite_frame]
@[simp] theorem memWrite_pc : (s.memWrite ea v).pc = s.pc := by rw [memWrite_frame]
@[simp] theorem memWrite_sp : (s.memWrite ea v).sp = s.sp := by rw [memWrite_frame]
@[simp] theorem memWrite_dp : (s.memWrite ea v).dp = s.dp := by rw [memWrite_frame]
@[simp] theorem memWrite_ie : (s.memWrite ea v).ie = s.ie := by rw [memWrite_frame]
@[simp] theorem memWrite_noSample : (s.memWrite ea v).noSample = s.noSample := by rw [memWrite_frame]
@[simp] theorem memWrite_memMap : (s.memWrite ea v).memMap = s.memMap := by rw [memWrite_frame]
@[simp] theorem memWrite_inputs : (s.memWrite ea v).inputs = s.inputs := by rw [memWrite_frame]
@[simp] theorem memWrite_cycles : (s.memWrite ea v).cycles = s.cycles := by rw [memWrite_frame]

end

/-! ### What accesses keep -/

/-- A write keeps the canonical form of memory. -/
theorem memWrite_wf (s : State) (ea : Word) (v : Byte) (h : s.mem.wf = true) : (s.memWrite ea v).mem.wf = true := by
  unfold State.memWrite
  cases s.kindAt ea
  · exact Memory.wf_write _ _ _ h
  · exact Memory.wf_write _ _ _ h
  · exact h
  · exact h

/-- A read only adds to the record of accesses. -/
theorem memRead_busLog (s : State) (ea : Word) : ∃ l, (s.memRead ea).2.busLog = l ++ s.busLog := by
  unfold State.memRead
  cases s.kindAt ea
  · exact ⟨[], rfl⟩
  · exact ⟨[], rfl⟩
  · exact ⟨[_], rfl⟩
  · exact ⟨[_], rfl⟩

/-- A write only adds to the record of accesses. -/
theorem memWrite_busLog (s : State) (ea : Word) (v : Byte) : ∃ l, (s.memWrite ea v).busLog = l ++ s.busLog := by
  unfold State.memWrite
  cases s.kindAt ea
  · exact ⟨[], rfl⟩
  · exact ⟨[_], rfl⟩
  · exact ⟨[_], rfl⟩
  · exact ⟨[_], rfl⟩

/-! ### Two-byte accesses and the stack -/

theorem read16Then_reads (s : State) (ea : Word) (k : Word → State → State) :
    ∃ w t, ReadsWord s ea w t ∧ s.read16Then ea k = k w t :=
  ⟨_, _, ⟨_, _, _, memRead_reads _ _, memRead_reads _ _, join16_toNat _ _⟩, rfl⟩

theorem memWrite16_writes (s : State) (ea w : Word) : WritesWord s ea w (s.memWrite16 ea w) :=
  ⟨_, _, _, word_eq_hi_lo w, memWrite_writes _ _ _, memWrite_writes _ _ _⟩

theorem push8_pushes (s : State) (v : Byte) : Pushes s v (s.push8 v) := memWrite_writes _ _ _

theorem push16_pushes (s : State) (w : Word) : PushesWord s w (s.push16 w) :=
  ⟨_, _, _, word_eq_hi_lo w, push8_pushes _ _, push8_pushes _ _⟩

theorem popThen_pops (s : State) (k : Byte → State → State) : ∃ v t, Pops s v t ∧ s.popThen k = k v t := by
  refine ⟨_, _, ⟨_, memRead_reads _ _, rfl⟩, ?_⟩
  simp [State.popThen, State.readThen, State.setSp]

theorem pop16Then_pops (s : State) (k : Word → State → State) : ∃ w t, PopsWord s w t ∧ s.pop16Then k = k w t := by
  obtain ⟨lo, t, ht, et⟩ := popThen_pops s fun lo t => t.popThen fun hi u => k (join16 hi lo) u
  obtain ⟨hi, u, hu, eu⟩ := popThen_pops t fun hi u => k (join16 hi lo) u
  exact ⟨_, _, ⟨_, _, _, ht, hu, join16_toNat _ _⟩, by rw [State.pop16Then, et, eu]⟩

/-- A push onto RAM. -/
theorem push8_ram (s : State) (v : Byte) (h : s.kindAt (padd s.sp 0xFFFF) = .ram) :
    s.push8 v = { s with sp := padd s.sp 0xFFFF, mem := s.mem.write (padd s.sp 0xFFFF) v } :=
  memWrite_ram (s.setSp (padd s.sp 0xFFFF)) _ v h

/-- A pop from RAM or ROM. -/
theorem popThen_stored (s : State) (k : Byte → State → State) (h : s.kindAt s.sp = .ram ∨ s.kindAt s.sp = .rom) :
    s.popThen k = k (s.stored s.sp) (s.setSp (padd s.sp 1)) := by
  simp only [State.popThen, readThen_eq, memRead_stored s s.sp h]

end Sys2Proof.Machine
end

