-- ==== Sys2Proof/Laws/PerInstr.lean ====
section
/-! SUPPORT. The family `EncodedShape`, one lemma per constructor: the instruction is well-formed and its bytes have the length
of its opcode's format (30_encoding.md R74, R80). -/

namespace Sys2Proof.Laws.EncodedShape

/-- The instruction is well-formed, and its encoding is one whole instruction. -/
def Statement (i : Instr) : Prop := i.wellFormed = true ∧ bytesWellFormed (encode i) = true

theorem nop : Statement .nop := ⟨rfl, rfl⟩
theorem ldA_B : Statement .ldA_B := ⟨rfl, rfl⟩
theorem ldA_C : Statement .ldA_C := ⟨rfl, rfl⟩
theorem ldA_D : Statement .ldA_D := ⟨rfl, rfl⟩
theorem ldB_A : Statement .ldB_A := ⟨rfl, rfl⟩
theorem ldB_C : Statement .ldB_C := ⟨rfl, rfl⟩
theorem ldB_D : Statement .ldB_D := ⟨rfl, rfl⟩
theorem ldC_A : Statement .ldC_A := ⟨rfl, rfl⟩
theorem ldC_B : Statement .ldC_B := ⟨rfl, rfl⟩
theorem ldC_D : Statement .ldC_D := ⟨rfl, rfl⟩
theorem ldD_A : Statement .ldD_A := ⟨rfl, rfl⟩
theorem ldD_B : Statement .ldD_B := ⟨rfl, rfl⟩
theorem ldD_C : Statement .ldD_C := ⟨rfl, rfl⟩
theorem ldA_n (n : Byte) : Statement (.ldA_n n) := ⟨rfl, rfl⟩
theorem ldB_n (n : Byte) : Statement (.ldB_n n) := ⟨rfl, rfl⟩
theorem ldC_n (n : Byte) : Statement (.ldC_n n) := ⟨rfl, rfl⟩
theorem ldD_n (n : Byte) : Statement (.ldD_n n) := ⟨rfl, rfl⟩
theorem ldA_atDP : Statement .ldA_atDP := ⟨rfl, rfl⟩
theorem ldB_atDP : Statement .ldB_atDP := ⟨rfl, rfl⟩
theorem ldC_atDP : Statement .ldC_atDP := ⟨rfl, rfl⟩
theorem ldD_atDP : Statement .ldD_atDP := ⟨rfl, rfl⟩
theorem ldA_atDPd (d : Byte) : Statement (.ldA_atDPd d) := ⟨rfl, rfl⟩
theorem ldB_atDPd (d : Byte) : Statement (.ldB_atDPd d) := ⟨rfl, rfl⟩
theorem ldA_atDPDd (d : Byte) : Statement (.ldA_atDPDd d) := ⟨rfl, rfl⟩
theorem ldA_atSPDd (d : Byte) : Statement (.ldA_atSPDd d) := ⟨rfl, rfl⟩
theorem ldB_atSPd (d : Byte) : Statement (.ldB_atSPd d) := ⟨rfl, rfl⟩
theorem ldC_atSPd (d : Byte) : Statement (.ldC_atSPd d) := ⟨rfl, rfl⟩
theorem ldD_atSPd (d : Byte) : Statement (.ldD_atSPd d) := ⟨rfl, rfl⟩
theorem ldA_atNN (nn : Word) : Statement (.ldA_atNN nn) := ⟨rfl, rfl⟩
theorem ldB_atNN (nn : Word) : Statement (.ldB_atNN nn) := ⟨rfl, rfl⟩
theorem ldC_atNN (nn : Word) : Statement (.ldC_atNN nn) := ⟨rfl, rfl⟩
theorem ldD_atNN (nn : Word) : Statement (.ldD_atNN nn) := ⟨rfl, rfl⟩
theorem ldAtDP_A : Statement .ldAtDP_A := ⟨rfl, rfl⟩
theorem ldAtDP_B : Statement .ldAtDP_B := ⟨rfl, rfl⟩
theorem ldAtDP_C : Statement .ldAtDP_C := ⟨rfl, rfl⟩
theorem ldAtDP_D : Statement .ldAtDP_D := ⟨rfl, rfl⟩
theorem ldAtDPd_A (d : Byte) : Statement (.ldAtDPd_A d) := ⟨rfl, rfl⟩
theorem ldAtDPd_B (d : Byte) : Statement (.ldAtDPd_B d) := ⟨rfl, rfl⟩
theorem ldAtDPDd_A (d : Byte) : Statement (.ldAtDPDd_A d) := ⟨rfl, rfl⟩
theorem ldAtSPDd_A (d : Byte) : Statement (.ldAtSPDd_A d) := ⟨rfl, rfl⟩
theorem ldAtSPd_B (d : Byte) : Statement (.ldAtSPd_B d) := ⟨rfl, rfl⟩
theorem ldAtSPd_C (d : Byte) : Statement (.ldAtSPd_C d) := ⟨rfl, rfl⟩
theorem ldAtSPd_D (d : Byte) : Statement (.ldAtSPd_D d) := ⟨rfl, rfl⟩
theorem ldAtNN_A (nn : Word) : Statement (.ldAtNN_A nn) := ⟨rfl, rfl⟩
theorem ldAtNN_B (nn : Word) : Statement (.ldAtNN_B nn) := ⟨rfl, rfl⟩
theorem ldAtNN_C (nn : Word) : Statement (.ldAtNN_C nn) := ⟨rfl, rfl⟩
theorem ldAtNN_D (nn : Word) : Statement (.ldAtNN_D nn) := ⟨rfl, rfl⟩
theorem ldAtNN_n (n : Byte) (nn : Word) : Statement (.ldAtNN_n n nn) := ⟨rfl, rfl⟩
theorem ldAtDD_atSS (ss : Word) (dd : Word) : Statement (.ldAtDD_atSS ss dd) := ⟨rfl, rfl⟩
theorem ldA_atCD : Statement .ldA_atCD := ⟨rfl, rfl⟩
theorem ldAtCD_A : Statement .ldAtCD_A := ⟨rfl, rfl⟩
theorem ldCD_atDP : Statement .ldCD_atDP := ⟨rfl, rfl⟩
theorem ldAtDP_CD : Statement .ldAtDP_CD := ⟨rfl, rfl⟩
theorem ldDP_AB : Statement .ldDP_AB := ⟨rfl, rfl⟩
theorem ldDP_nn (nn : Word) : Statement (.ldDP_nn nn) := ⟨rfl, rfl⟩
theorem ldSP_nn (nn : Word) : Statement (.ldSP_nn nn) := ⟨rfl, rfl⟩
theorem ldDP_SPd (d : Byte) : Statement (.ldDP_SPd d) := ⟨rfl, rfl⟩
theorem exAB_CD : Statement .exAB_CD := ⟨rfl, rfl⟩
theorem exCD_DP : Statement .exCD_DP := ⟨rfl, rfl⟩
theorem exDP_atNN (nn : Word) : Statement (.exDP_atNN nn) := ⟨rfl, rfl⟩
theorem pushA : Statement .pushA := ⟨rfl, rfl⟩
theorem pushB : Statement .pushB := ⟨rfl, rfl⟩
theorem pushF : Statement .pushF := ⟨rfl, rfl⟩
theorem pushCD : Statement .pushCD := ⟨rfl, rfl⟩
theorem pushDP : Statement .pushDP := ⟨rfl, rfl⟩
theorem pushALL : Statement .pushALL := ⟨rfl, rfl⟩
theorem push_n (n : Byte) : Statement (.push_n n) := ⟨rfl, rfl⟩
theorem pushAtNN (nn : Word) : Statement (.pushAtNN nn) := ⟨rfl, rfl⟩
theorem popA : Statement .popA := ⟨rfl, rfl⟩
theorem popB : Statement .popB := ⟨rfl, rfl⟩
theorem popF : Statement .popF := ⟨rfl, rfl⟩
theorem popCD : Statement .popCD := ⟨rfl, rfl⟩
theorem popDP : Statement .popDP := ⟨rfl, rfl⟩
theorem popALL : Statement .popALL := ⟨rfl, rfl⟩
theorem popAtNN (nn : Word) : Statement (.popAtNN nn) := ⟨rfl, rfl⟩
theorem addA_B : Statement .addA_B := ⟨rfl, rfl⟩
theorem addA_C : Statement .addA_C := ⟨rfl, rfl⟩
theorem addA_D : Statement .addA_D := ⟨rfl, rfl⟩
theorem addA_n (n : Byte) : Statement (.addA_n n) := ⟨rfl, rfl⟩
theorem addB_n (n : Byte) : Statement (.addB_n n) := ⟨rfl, rfl⟩
theorem addC_n (n : Byte) : Statement (.addC_n n) := ⟨rfl, rfl⟩
theorem addD_n (n : Byte) : Statement (.addD_n n) := ⟨rfl, rfl⟩
theorem addcA_A : Statement .addcA_A := ⟨rfl, rfl⟩
theorem addcA_B : Statement .addcA_B := ⟨rfl, rfl⟩
theorem addcA_C : Statement .addcA_C := ⟨rfl, rfl⟩
theorem addcA_D : Statement .addcA_D := ⟨rfl, rfl⟩
theorem addcA_n (n : Byte) : Statement (.addcA_n n) := ⟨rfl, rfl⟩
theorem addcB_n (n : Byte) : Statement (.addcB_n n) := ⟨rfl, rfl⟩
theorem addcC_n (n : Byte) : Statement (.addcC_n n) := ⟨rfl, rfl⟩
theorem addcD_n (n : Byte) : Statement (.addcD_n n) := ⟨rfl, rfl⟩
theorem subA_B : Statement .subA_B := ⟨rfl, rfl⟩
theorem subA_C : Statement .subA_C := ⟨rfl, rfl⟩
theorem subA_D : Statement .subA_D := ⟨rfl, rfl⟩
theorem subA_n (n : Byte) : Statement (.subA_n n) := ⟨rfl, rfl⟩
theorem subB_n (n : Byte) : Statement (.subB_n n) := ⟨rfl, rfl⟩
theorem subC_n (n : Byte) : Statement (.subC_n n) := ⟨rfl, rfl⟩
theorem subD_n (n : Byte) : Statement (.subD_n n) := ⟨rfl, rfl⟩
theorem subbA_B : Statement .subbA_B := ⟨rfl, rfl⟩
theorem subbA_C : Statement .subbA_C := ⟨rfl, rfl⟩
theorem subbA_D : Statement .subbA_D := ⟨rfl, rfl⟩
theorem subbA_n (n : Byte) : Statement (.subbA_n n) := ⟨rfl, rfl⟩
theorem subbB_n (n : Byte) : Statement (.subbB_n n) := ⟨rfl, rfl⟩
theorem subbC_n (n : Byte) : Statement (.subbC_n n) := ⟨rfl, rfl⟩
theorem subbD_n (n : Byte) : Statement (.subbD_n n) := ⟨rfl, rfl⟩
theorem addA_atDP : Statement .addA_atDP := ⟨rfl, rfl⟩
theorem addcA_atDP : Statement .addcA_atDP := ⟨rfl, rfl⟩
theorem subA_atDP : Statement .subA_atDP := ⟨rfl, rfl⟩
theorem subbA_atDP : Statement .subbA_atDP := ⟨rfl, rfl⟩
theorem addAtDP_A : Statement .addAtDP_A := ⟨rfl, rfl⟩
theorem addcAtDP_A : Statement .addcAtDP_A := ⟨rfl, rfl⟩
theorem subAtDP_A : Statement .subAtDP_A := ⟨rfl, rfl⟩
theorem subbAtDP_A : Statement .subbAtDP_A := ⟨rfl, rfl⟩
theorem incA : Statement .incA := ⟨rfl, rfl⟩
theorem decA : Statement .decA := ⟨rfl, rfl⟩
theorem incAtDP : Statement .incAtDP := ⟨rfl, rfl⟩
theorem decAtDP : Statement .decAtDP := ⟨rfl, rfl⟩
theorem incAtNN (nn : Word) : Statement (.incAtNN nn) := ⟨rfl, rfl⟩
theorem decAtNN (nn : Word) : Statement (.decAtNN nn) := ⟨rfl, rfl⟩
theorem clrA : Statement .clrA := ⟨rfl, rfl⟩
theorem cplA : Statement .cplA := ⟨rfl, rfl⟩
theorem andA_B : Statement .andA_B := ⟨rfl, rfl⟩
theorem andA_C : Statement .andA_C := ⟨rfl, rfl⟩
theorem andA_D : Statement .andA_D := ⟨rfl, rfl⟩
theorem andA_n (n : Byte) : Statement (.andA_n n) := ⟨rfl, rfl⟩
theorem andB_n (n : Byte) : Statement (.andB_n n) := ⟨rfl, rfl⟩
theorem andC_n (n : Byte) : Statement (.andC_n n) := ⟨rfl, rfl⟩
theorem andD_n (n : Byte) : Statement (.andD_n n) := ⟨rfl, rfl⟩
theorem orA_B : Statement .orA_B := ⟨rfl, rfl⟩
theorem orA_C : Statement .orA_C := ⟨rfl, rfl⟩
theorem orA_D : Statement .orA_D := ⟨rfl, rfl⟩
theorem orA_n (n : Byte) : Statement (.orA_n n) := ⟨rfl, rfl⟩
theorem orB_n (n : Byte) : Statement (.orB_n n) := ⟨rfl, rfl⟩
theorem orC_n (n : Byte) : Statement (.orC_n n) := ⟨rfl, rfl⟩
theorem orD_n (n : Byte) : Statement (.orD_n n) := ⟨rfl, rfl⟩
theorem xorA_B : Statement .xorA_B := ⟨rfl, rfl⟩
theorem xorA_C : Statement .xorA_C := ⟨rfl, rfl⟩
theorem xorA_D : Statement .xorA_D := ⟨rfl, rfl⟩
theorem xorA_n (n : Byte) : Statement (.xorA_n n) := ⟨rfl, rfl⟩
theorem xorB_n (n : Byte) : Statement (.xorB_n n) := ⟨rfl, rfl⟩
theorem xorC_n (n : Byte) : Statement (.xorC_n n) := ⟨rfl, rfl⟩
theorem xorD_n (n : Byte) : Statement (.xorD_n n) := ⟨rfl, rfl⟩
theorem cpA_C : Statement .cpA_C := ⟨rfl, rfl⟩
theorem cpA_D : Statement .cpA_D := ⟨rfl, rfl⟩
theorem mulAB : Statement .mulAB := ⟨rfl, rfl⟩
theorem mulA_n (n : Byte) : Statement (.mulA_n n) := ⟨rfl, rfl⟩
theorem mulAtDP_AB : Statement .mulAtDP_AB := ⟨rfl, rfl⟩
theorem mulCD_AB : Statement .mulCD_AB := ⟨rfl, rfl⟩
theorem mul16AB_C : Statement .mul16AB_C := ⟨rfl, rfl⟩
theorem divA_B : Statement .divA_B := ⟨rfl, rfl⟩
theorem divA_n (n : Byte) : Statement (.divA_n n) := ⟨rfl, rfl⟩
theorem divAtDP_AB : Statement .divAtDP_AB := ⟨rfl, rfl⟩
theorem divCD_AB : Statement .divCD_AB := ⟨rfl, rfl⟩
theorem divnrA_B : Statement .divnrA_B := ⟨rfl, rfl⟩
theorem extA : Statement .extA := ⟨rfl, rfl⟩
theorem extdirA_oper (oper : Byte) : Statement (.extdirA_oper oper) := ⟨rfl, rfl⟩
theorem extAtDP_A : Statement .extAtDP_A := ⟨rfl, rfl⟩
theorem extCD_A : Statement .extCD_A := ⟨rfl, rfl⟩
theorem extdirlA_oper (oper : Byte) : Statement (.extdirlA_oper oper) := ⟨rfl, rfl⟩
theorem incDP : Statement .incDP := ⟨rfl, rfl⟩
theorem decDP : Statement .decDP := ⟨rfl, rfl⟩
theorem addDP_A : Statement .addDP_A := ⟨rfl, rfl⟩
theorem addDP_d (d : Byte) : Statement (.addDP_d d) := ⟨rfl, rfl⟩
theorem addCD_AB : Statement .addCD_AB := ⟨rfl, rfl⟩
theorem subCD_AB : Statement .subCD_AB := ⟨rfl, rfl⟩
theorem addSP_A : Statement .addSP_A := ⟨rfl, rfl⟩
theorem addSP_d (d : Byte) : Statement (.addSP_d d) := ⟨rfl, rfl⟩
theorem cpA_B : Statement .cpA_B := ⟨rfl, rfl⟩
theorem cpA_n (n : Byte) : Statement (.cpA_n n) := ⟨rfl, rfl⟩
theorem cpB_n (n : Byte) : Statement (.cpB_n n) := ⟨rfl, rfl⟩
theorem cpC_n (n : Byte) : Statement (.cpC_n n) := ⟨rfl, rfl⟩
theorem cpD_n (n : Byte) : Statement (.cpD_n n) := ⟨rfl, rfl⟩
theorem cpA_atDP : Statement .cpA_atDP := ⟨rfl, rfl⟩
theorem cpAtDP_n (n : Byte) : Statement (.cpAtDP_n n) := ⟨rfl, rfl⟩
theorem testA_n (n : Byte) : Statement (.testA_n n) := ⟨rfl, rfl⟩
theorem ldC_atDPd (d : Byte) : Statement (.ldC_atDPd d) := ⟨rfl, rfl⟩
theorem ldD_atDPd (d : Byte) : Statement (.ldD_atDPd d) := ⟨rfl, rfl⟩
theorem ldAtDPd_C (d : Byte) : Statement (.ldAtDPd_C d) := ⟨rfl, rfl⟩
theorem ldAtDPd_D (d : Byte) : Statement (.ldAtDPd_D d) := ⟨rfl, rfl⟩
theorem ldA_atSPd (d : Byte) : Statement (.ldA_atSPd d) := ⟨rfl, rfl⟩
theorem ldAtSPd_A (d : Byte) : Statement (.ldAtSPd_A d) := ⟨rfl, rfl⟩
theorem ldCD_SP : Statement .ldCD_SP := ⟨rfl, rfl⟩
theorem ldDP_CDd (d : Byte) : Statement (.ldDP_CDd d) := ⟨rfl, rfl⟩
theorem addCD_nn (nn : Word) : Statement (.addCD_nn nn) := ⟨rfl, rfl⟩
theorem subCD_nn (nn : Word) : Statement (.subCD_nn nn) := ⟨rfl, rfl⟩
theorem addAtDP_n (n : Byte) : Statement (.addAtDP_n n) := ⟨rfl, rfl⟩
theorem addcAtDP_n (n : Byte) : Statement (.addcAtDP_n n) := ⟨rfl, rfl⟩
theorem subAtDP_n (n : Byte) : Statement (.subAtDP_n n) := ⟨rfl, rfl⟩
theorem subbAtDP_n (n : Byte) : Statement (.subbAtDP_n n) := ⟨rfl, rfl⟩
theorem andA_atDP : Statement .andA_atDP := ⟨rfl, rfl⟩
theorem andAtDP_A : Statement .andAtDP_A := ⟨rfl, rfl⟩
theorem andAtDP_n (n : Byte) : Statement (.andAtDP_n n) := ⟨rfl, rfl⟩
theorem orA_atDP : Statement .orA_atDP := ⟨rfl, rfl⟩
theorem orAtDP_A : Statement .orAtDP_A := ⟨rfl, rfl⟩
theorem orAtDP_n (n : Byte) : Statement (.orAtDP_n n) := ⟨rfl, rfl⟩
theorem xorA_atDP : Statement .xorA_atDP := ⟨rfl, rfl⟩
theorem xorAtDP_A : Statement .xorAtDP_A := ⟨rfl, rfl⟩
theorem xorAtDP_n (n : Byte) : Statement (.xorAtDP_n n) := ⟨rfl, rfl⟩
theorem jp_nn (nn : Word) : Statement (.jp_nn nn) := ⟨rfl, rfl⟩
theorem jpC_nn (nn : Word) : Statement (.jpC_nn nn) := ⟨rfl, rfl⟩
theorem jpOV_nn (nn : Word) : Statement (.jpOV_nn nn) := ⟨rfl, rfl⟩
theorem jpZ_nn (nn : Word) : Statement (.jpZ_nn nn) := ⟨rfl, rfl⟩
theorem jpNEG_nn (nn : Word) : Statement (.jpNEG_nn nn) := ⟨rfl, rfl⟩
theorem jpPOS_nn (nn : Word) : Statement (.jpPOS_nn nn) := ⟨rfl, rfl⟩
theorem jpEQ_nn (nn : Word) : Statement (.jpEQ_nn nn) := ⟨rfl, rfl⟩
theorem jpLT_nn (nn : Word) : Statement (.jpLT_nn nn) := ⟨rfl, rfl⟩
theorem jpGT_nn (nn : Word) : Statement (.jpGT_nn nn) := ⟨rfl, rfl⟩
theorem jpDPd (d : Byte) : Statement (.jpDPd d) := ⟨rfl, rfl⟩
theorem jr_d (d : Byte) : Statement (.jr_d d) := ⟨rfl, rfl⟩
theorem jrC_d (d : Byte) : Statement (.jrC_d d) := ⟨rfl, rfl⟩
theorem di : Statement .di := ⟨rfl, rfl⟩
theorem jrOV_d (d : Byte) : Statement (.jrOV_d d) := ⟨rfl, rfl⟩
theorem jrZ_d (d : Byte) : Statement (.jrZ_d d) := ⟨rfl, rfl⟩
theorem jrNEG_d (d : Byte) : Statement (.jrNEG_d d) := ⟨rfl, rfl⟩
theorem jrPOS_d (d : Byte) : Statement (.jrPOS_d d) := ⟨rfl, rfl⟩
theorem jrEQ_d (d : Byte) : Statement (.jrEQ_d d) := ⟨rfl, rfl⟩
theorem jrLT_d (d : Byte) : Statement (.jrLT_d d) := ⟨rfl, rfl⟩
theorem jrGT_d (d : Byte) : Statement (.jrGT_d d) := ⟨rfl, rfl⟩
theorem jrNC_d (d : Byte) : Statement (.jrNC_d d) := ⟨rfl, rfl⟩
theorem jrNOV_d (d : Byte) : Statement (.jrNOV_d d) := ⟨rfl, rfl⟩
theorem jrNZ_d (d : Byte) : Statement (.jrNZ_d d) := ⟨rfl, rfl⟩
theorem jrNNEG_d (d : Byte) : Statement (.jrNNEG_d d) := ⟨rfl, rfl⟩
theorem jrNPOS_d (d : Byte) : Statement (.jrNPOS_d d) := ⟨rfl, rfl⟩
theorem jrNEQ_d (d : Byte) : Statement (.jrNEQ_d d) := ⟨rfl, rfl⟩
theorem jrNLT_d (d : Byte) : Statement (.jrNLT_d d) := ⟨rfl, rfl⟩
theorem jrNGT_d (d : Byte) : Statement (.jrNGT_d d) := ⟨rfl, rfl⟩
theorem ei : Statement .ei := ⟨rfl, rfl⟩
theorem djnz_d (d : Byte) : Statement (.djnz_d d) := ⟨rfl, rfl⟩
theorem call_nn (nn : Word) : Statement (.call_nn nn) := ⟨rfl, rfl⟩
theorem callr_d (d : Byte) : Statement (.callr_d d) := ⟨rfl, rfl⟩
theorem callDPd (d : Byte) : Statement (.callDPd d) := ⟨rfl, rfl⟩
theorem ret : Statement .ret := ⟨rfl, rfl⟩
theorem reti : Statement .reti := ⟨rfl, rfl⟩
theorem outAtS_A (sel : Byte) : Statement (.outAtS_A sel) := ⟨rfl, rfl⟩
theorem outAtS_B (sel : Byte) : Statement (.outAtS_B sel) := ⟨rfl, rfl⟩
theorem outAtS_C (sel : Byte) : Statement (.outAtS_C sel) := ⟨rfl, rfl⟩
theorem outAtS_D (sel : Byte) : Statement (.outAtS_D sel) := ⟨rfl, rfl⟩
theorem outAtS_n (n : Byte) (sel : Byte) : Statement (.outAtS_n n sel) := ⟨rfl, rfl⟩
theorem outAtS_atDP (sel : Byte) : Statement (.outAtS_atDP sel) := ⟨rfl, rfl⟩
theorem outiAtS_atDP (sel : Byte) : Statement (.outiAtS_atDP sel) := ⟨rfl, rfl⟩
theorem outdAtS_atDP (sel : Byte) : Statement (.outdAtS_atDP sel) := ⟨rfl, rfl⟩
theorem inA_atS (sel : Byte) : Statement (.inA_atS sel) := ⟨rfl, rfl⟩
theorem inB_atS (sel : Byte) : Statement (.inB_atS sel) := ⟨rfl, rfl⟩
theorem inC_atS (sel : Byte) : Statement (.inC_atS sel) := ⟨rfl, rfl⟩
theorem inD_atS (sel : Byte) : Statement (.inD_atS sel) := ⟨rfl, rfl⟩
theorem inAtDP_atS (sel : Byte) : Statement (.inAtDP_atS sel) := ⟨rfl, rfl⟩
theorem iniAtDP_atS (sel : Byte) : Statement (.iniAtDP_atS sel) := ⟨rfl, rfl⟩
theorem indAtDP_atS (sel : Byte) : Statement (.indAtDP_atS sel) := ⟨rfl, rfl⟩
theorem incioAtS (sel : Byte) : Statement (.incioAtS sel) := ⟨rfl, rfl⟩
theorem decioAtS (sel : Byte) : Statement (.decioAtS sel) := ⟨rfl, rfl⟩
theorem andioAtS_A (sel : Byte) : Statement (.andioAtS_A sel) := ⟨rfl, rfl⟩
theorem andioAtS_n (sel : Byte) (n : Byte) : Statement (.andioAtS_n sel n) := ⟨rfl, rfl⟩
theorem orioAtS_A (sel : Byte) : Statement (.orioAtS_A sel) := ⟨rfl, rfl⟩
theorem orioAtS_n (sel : Byte) (n : Byte) : Statement (.orioAtS_n sel n) := ⟨rfl, rfl⟩
theorem xorioAtS_A (sel : Byte) : Statement (.xorioAtS_A sel) := ⟨rfl, rfl⟩
theorem xorioAtS_n (sel : Byte) (n : Byte) : Statement (.xorioAtS_n sel n) := ⟨rfl, rfl⟩
theorem reset : Statement .reset := ⟨rfl, rfl⟩

end Sys2Proof.Laws.EncodedShape
end

