-- ==== Sys2Proof/Laws/Step.lean ====
section
/-! SUPPORT. What fetching and the boundary can do, said once. -/

namespace Sys2Proof.Machine

/-! ### Fetching -/

/-- The bytes fetched, and the state after, are those of `FetchesBytes`. -/
theorem fetchesBytes_iff (bytes : List Byte) (s t : State) :
    FetchesBytes s bytes t ↔ fetchBytes bytes.length s = (bytes, t) := by
  induction bytes generalizing s with
  | nil => simp [FetchesBytes, fetchBytes, eq_comm]
  | cons v rest ih =>
    have key : ∀ u : State, FetchesBytes { u with pc := s.pc + 1 } rest t ↔
        fetchBytes rest.length { u with pc := s.pc + 1 } = (rest, t) := fun u => ih _
    simp only [FetchesBytes, readsByte_iff, key, List.length_cons, fetchBytes, fetchByte, State.setPc]
    constructor
    · rintro ⟨u, ⟨rfl, rfl⟩, h⟩
      rw [h]
    · intro h
      simp only [Prod.mk.injEq, List.cons.injEq] at h
      exact ⟨_, ⟨h.1.1.symm, rfl⟩, Prod.ext h.1.2 h.2⟩

/-- An instruction whose bytes are fetched is what `fetchInstr` answers. -/
theorem fetchInstr_eq {s t : State} {opcode : Byte} {operands : List Byte}
    (hl : operands.length = operandCount opcode) (h : FetchesBytes s (opcode :: operands) t) :
    fetchInstr s = (opcode :: operands, t) := by
  obtain ⟨u, hu, ht⟩ := h
  obtain ⟨hv, rfl⟩ := (readsByte_iff _ _ _ _).mp hu
  have := (fetchesBytes_iff _ _ _).mp ht
  rw [hl] at this
  simp only [fetchInstr, fetchByte, State.setPc, ← hv, this]

/-- The number of bytes fetched. -/
theorem fetchBytes_length (k : Nat) (s : State) : (fetchBytes k s).1.length = k := by
  induction k generalizing s with
  | zero => rfl
  | succ k ih => simp [fetchBytes, ih]

/-- The first bytes of a longer fetch are those of the shorter one. -/
theorem fetchBytes_take {j k : Nat} (h : j ≤ k) (s : State) : (fetchBytes k s).1.take j = (fetchBytes j s).1 := by
  induction j generalizing k s with
  | zero => rfl
  | succ j ih =>
    obtain ⟨k, rfl⟩ : ∃ m, k = m + 1 := ⟨k - 1, by omega⟩
    simp only [fetchBytes, List.take_succ_cons, ih (Nat.le_of_succ_le_succ h)]

/-- What `fetchInstr` answers decodes: it is an opcode with all its operand bytes (30_encoding.md R75). -/
theorem decode_fetchInstr (s : State) : ∃ i rest, decode (fetchInstr s).1 = .ok (i, rest) := by
  simp only [fetchInstr, decode]
  have hf := rowOf_format (fetchByte s).1
  cases hr : rowOf (fetchByte s).1 with
  | none => simp [hr] at hf
  | some row =>
    simp only [hr, Option.map_some, Option.some.injEq] at hf
    obtain ⟨i, rest, h⟩ := row.read_isSome (fetchBytes (operandCount (fetchByte s).1) (fetchByte s).2).1 (by
      rw [fetchBytes_length, hf, operandCount_eq])
    exact ⟨i, rest, by simp only [h]⟩

/-- A fetch changes nothing but PC and the record of accesses. -/
theorem fetchBytes_frame (k : Nat) (s : State) :
    (fetchBytes k s).2 = { s with pc := (fetchBytes k s).2.pc, busLog := (fetchBytes k s).2.busLog } := by
  induction k generalizing s with
  | zero => rfl
  | succ k ih =>
    simp only [fetchBytes]
    rw [ih, fetchByte, memRead_frame]
    rfl

/-- A fetch only adds to the record of accesses. -/
theorem fetchBytes_busLog (k : Nat) (s : State) : ∃ l, (fetchBytes k s).2.busLog = l ++ s.busLog := by
  induction k generalizing s with
  | zero => exact ⟨[], rfl⟩
  | succ k ih =>
    obtain ⟨l, hl⟩ := ih (fetchByte s).2
    obtain ⟨m, hm⟩ := memRead_busLog s s.pc
    refine ⟨l ++ m, ?_⟩
    simp only [fetchBytes, hl, List.append_assoc]
    simp [fetchByte, hm]

theorem fetchInstr_state (s : State) : (fetchInstr s).2 = (fetchBytes (operandCount (fetchByte s).1 + 1) s).2 := rfl

/-! ### The boundary -/

/-- Every state is in exactly one of three cases at its boundary. -/
theorem boundary_cases (s : State) : ExecutesInstruction s ∨ (∃ p, TakesInterrupt s p) ∨ s.input = .reset := by
  unfold ExecutesInstruction TakesInterrupt
  cases s.input <;> cases s.noSample <;> cases s.ie <;> simp

theorem boundary_execute {s : State} (h : ExecutesInstruction s) : boundary s = .execute (afterBoundary s) := by
  unfold boundary
  rcases h with h | ⟨p, h, hn | hi⟩
  · rw [h]; rfl
  · rw [h]; simp only [hn, if_true]; rfl
  · rw [h]
    cases hn : s.noSample
    · simp only [hi, Bool.false_eq_true, if_false, afterBoundary, State.dropInput]
      rw [← hn]
    · rfl

theorem boundary_interrupt {s : State} {p : Byte} (h : TakesInterrupt s p) :
    boundary s = .taken ((interruptResponse p s.dropInput).addCycles interruptClocks) := by
  obtain ⟨h, hn, hi⟩ := h
  simp [boundary, h, hn, hi]

theorem boundary_reset {s : State} (h : s.input = .reset) :
    boundary s = .taken ((resetOp s.dropInput).addCycles Config.resetClocks) := by
  simp [boundary, h]

/-- The step of a state that executes an instruction. -/
theorem step_execute {s : State} (h : ExecutesInstruction s) : step s = runInstruction (afterBoundary s) := by
  simp only [step, boundary_execute h]

/-- The step of a state that takes an interrupt. -/
theorem step_interrupt {s : State} {p : Byte} (h : TakesInterrupt s p) :
    step s = .next ((interruptResponse p s.dropInput).addCycles interruptClocks) := by
  simp only [step, boundary_interrupt h]

/-- The step of a state whose environment presents a reset. -/
theorem step_reset {s : State} (h : s.input = .reset) :
    step s = .next ((resetOp s.dropInput).addCycles Config.resetClocks) := by
  simp only [step, boundary_reset h]

/-- The interrupt response counts no clocks by itself. -/
@[simp] theorem interruptResponse_cycles (p : Byte) (s : State) : (interruptResponse p s).cycles = s.cycles := by
  simp [interruptResponse, State.readThen, State.push16, State.push8]

end Sys2Proof.Machine
end

