-- ==== Sys2Proof/Tests/Slice0.lean ====
section
/-! SUPPORT. Tests. The expected values come from the encodings of the instruction sections and from 95_test_vectors.md,
which derives them from the rules and from the manual's own examples; then one witness per statement with hypotheses,
clause by clause at boundary values. -/

namespace Sys2Proof.Machine

set_option maxRecDepth 8000

/-! ### Decoding -/

/-- Each byte string decodes to the instruction beside it, with nothing left over, and is that instruction's encoding. -/
def readsAs (l : List (List Byte × Instr)) : Bool :=
  l.all fun x => (match decode x.1 with | .ok r => r == (x.2, []) | .error _ => false) && encode x.2 == x.1

/-- 40_load_exchange.md: the bytes written out from each encoding. -/
theorem test_decode_load_exchange_1 : readsAs [
    ([0x01], .ldA_B), ([0x02], .ldA_C), ([0x03], .ldA_D), ([0x04], .ldB_A), ([0x05], .ldB_C), ([0x06], .ldB_D),
    ([0x07], .ldC_A), ([0x08], .ldC_B), ([0x09], .ldC_D), ([0x0A], .ldD_A), ([0x0B], .ldD_B), ([0x0C], .ldD_C),
    ([0x0D, 0xA5], .ldA_n 0xA5), ([0x0E, 0xA5], .ldB_n 0xA5), ([0x0F, 0xA5], .ldC_n 0xA5),
    ([0x10, 0xA5], .ldD_n 0xA5), ([0x11], .ldA_atDP), ([0x12], .ldB_atDP), ([0x13], .ldC_atDP), ([0x14], .ldD_atDP),
    ([0x15, 0xF6], .ldA_atDPd 0xF6), ([0x16, 0xF6], .ldB_atDPd 0xF6), ([0x17, 0xF6], .ldA_atDPDd 0xF6),
    ([0x18, 0xF6], .ldA_atSPDd 0xF6), ([0x19, 0xF6], .ldB_atSPd 0xF6), ([0x1A, 0xF6], .ldC_atSPd 0xF6),
    ([0x1B, 0xF6], .ldD_atSPd 0xF6), ([0x1C, 0x34, 0x12], .ldA_atNN 0x1234), ([0x1D, 0x34, 0x12], .ldB_atNN 0x1234),
    ([0x1E, 0x34, 0x12], .ldC_atNN 0x1234), ([0x1F, 0x34, 0x12], .ldD_atNN 0x1234), ([0x20], .ldAtDP_A),
    ([0x21], .ldAtDP_B), ([0x22], .ldAtDP_C), ([0x23], .ldAtDP_D), ([0x24, 0xF6], .ldAtDPd_A 0xF6)] = true := by decide

/-- 40_load_exchange.md: the bytes written out from each encoding. -/
theorem test_decode_load_exchange_2 : readsAs [
    ([0x25, 0xF6], .ldAtDPd_B 0xF6), ([0x26, 0xF6], .ldAtDPDd_A 0xF6), ([0x27, 0xF6], .ldAtSPDd_A 0xF6),
    ([0x28, 0xF6], .ldAtSPd_B 0xF6), ([0x29, 0xF6], .ldAtSPd_C 0xF6), ([0x2A, 0xF6], .ldAtSPd_D 0xF6),
    ([0x2B, 0x34, 0x12], .ldAtNN_A 0x1234), ([0x2C, 0x34, 0x12], .ldAtNN_B 0x1234),
    ([0x2D, 0x34, 0x12], .ldAtNN_C 0x1234), ([0x2E, 0x34, 0x12], .ldAtNN_D 0x1234),
    ([0x2F, 0xA5, 0x34, 0x12], .ldAtNN_n 0xA5 0x1234), ([0x30, 0x78, 0x56, 0xBC, 0x9A], .ldAtDD_atSS 0x5678 0x9ABC),
    ([0x31], .ldA_atCD), ([0x32], .ldAtCD_A), ([0x33], .ldCD_atDP), ([0x34], .ldAtDP_CD), ([0x35], .ldDP_AB),
    ([0x36, 0x34, 0x12], .ldDP_nn 0x1234), ([0x37, 0x34, 0x12], .ldSP_nn 0x1234), ([0x38, 0xF6], .ldDP_SPd 0xF6),
    ([0x39], .exAB_CD), ([0x3A], .exCD_DP), ([0x3B, 0x34, 0x12], .exDP_atNN 0x1234), ([0xAE, 0xF6], .ldC_atDPd 0xF6),
    ([0xAF, 0xF6], .ldD_atDPd 0xF6), ([0xB0, 0xF6], .ldAtDPd_C 0xF6), ([0xB1, 0xF6], .ldAtDPd_D 0xF6),
    ([0xB2, 0xF6], .ldA_atSPd 0xF6), ([0xB3, 0xF6], .ldAtSPd_A 0xF6), ([0xB4], .ldCD_SP),
    ([0xB5, 0xF6], .ldDP_CDd 0xF6)] = true := by decide

/-- 41_stack.md: the bytes written out from each encoding. -/
theorem test_decode_stack : readsAs [
    ([0x3C], .pushA), ([0x3D], .pushB), ([0x3E], .pushF), ([0x3F], .pushCD), ([0x40], .pushDP), ([0x41], .pushALL),
    ([0x42, 0xA5], .push_n 0xA5), ([0x43, 0x34, 0x12], .pushAtNN 0x1234), ([0x44], .popA), ([0x45], .popB),
    ([0x46], .popF), ([0x47], .popCD), ([0x48], .popDP), ([0x49], .popALL), ([0x4A, 0x34, 0x12], .popAtNN 0x1234)] = true := by decide

/-- 42_alu8.md: the bytes written out from each encoding. -/
theorem test_decode_alu8_1 : readsAs [
    ([0x4B], .addA_B), ([0x4C], .addA_C), ([0x4D], .addA_D), ([0x4E, 0xA5], .addA_n 0xA5),
    ([0x4F, 0xA5], .addB_n 0xA5), ([0x50, 0xA5], .addC_n 0xA5), ([0x51, 0xA5], .addD_n 0xA5), ([0x52], .addcA_A),
    ([0x53], .addcA_B), ([0x54], .addcA_C), ([0x55], .addcA_D), ([0x56, 0xA5], .addcA_n 0xA5),
    ([0x57, 0xA5], .addcB_n 0xA5), ([0x58, 0xA5], .addcC_n 0xA5), ([0x59, 0xA5], .addcD_n 0xA5), ([0x5A], .subA_B),
    ([0x5B], .subA_C), ([0x5C], .subA_D), ([0x5D, 0xA5], .subA_n 0xA5), ([0x5E, 0xA5], .subB_n 0xA5),
    ([0x5F, 0xA5], .subC_n 0xA5), ([0x60, 0xA5], .subD_n 0xA5), ([0x61], .subbA_B), ([0x62], .subbA_C),
    ([0x63], .subbA_D), ([0x64, 0xA5], .subbA_n 0xA5), ([0x65, 0xA5], .subbB_n 0xA5), ([0x66, 0xA5], .subbC_n 0xA5),
    ([0x67, 0xA5], .subbD_n 0xA5), ([0x68], .addA_atDP), ([0x69], .addcA_atDP), ([0x6A], .subA_atDP),
    ([0x6B], .subbA_atDP), ([0x6C], .addAtDP_A), ([0x6D], .addcAtDP_A), ([0x6E], .subAtDP_A)] = true := by decide

/-- 42_alu8.md: the bytes written out from each encoding. -/
theorem test_decode_alu8_2 : readsAs [
    ([0x6F], .subbAtDP_A), ([0x70], .incA), ([0x71], .decA), ([0x72], .incAtDP), ([0x73], .decAtDP),
    ([0x74, 0x34, 0x12], .incAtNN 0x1234), ([0x75, 0x34, 0x12], .decAtNN 0x1234), ([0x76], .clrA), ([0x77], .cplA)] = true := by decide

/-- 42_alu8_part2.md: the bytes written out from each encoding. -/
theorem test_decode_alu8_part2_1 : readsAs [
    ([0x78], .andA_B), ([0x79], .andA_C), ([0x7A], .andA_D), ([0x7B, 0xA5], .andA_n 0xA5),
    ([0x7C, 0xA5], .andB_n 0xA5), ([0x7D, 0xA5], .andC_n 0xA5), ([0x7E, 0xA5], .andD_n 0xA5), ([0x7F], .orA_B),
    ([0x80], .orA_C), ([0x81], .orA_D), ([0x82, 0xA5], .orA_n 0xA5), ([0x83, 0xA5], .orB_n 0xA5),
    ([0x84, 0xA5], .orC_n 0xA5), ([0x85, 0xA5], .orD_n 0xA5), ([0x86], .xorA_B), ([0x87], .xorA_C),
    ([0x88], .xorA_D), ([0x89, 0xA5], .xorA_n 0xA5), ([0x8A, 0xA5], .xorB_n 0xA5), ([0x8B, 0xA5], .xorC_n 0xA5),
    ([0x8C, 0xA5], .xorD_n 0xA5), ([0x8D], .cpA_C), ([0x8E], .cpA_D), ([0xA6], .cpA_B), ([0xA7, 0xA5], .cpA_n 0xA5),
    ([0xA8, 0xA5], .cpB_n 0xA5), ([0xA9, 0xA5], .cpC_n 0xA5), ([0xAA, 0xA5], .cpD_n 0xA5), ([0xAB], .cpA_atDP),
    ([0xAC, 0xA5], .cpAtDP_n 0xA5), ([0xAD, 0xA5], .testA_n 0xA5), ([0xB8, 0xA5], .addAtDP_n 0xA5),
    ([0xB9, 0xA5], .addcAtDP_n 0xA5), ([0xBA, 0xA5], .subAtDP_n 0xA5), ([0xBB, 0xA5], .subbAtDP_n 0xA5),
    ([0xBC], .andA_atDP)] = true := by decide

/-- 42_alu8_part2.md: the bytes written out from each encoding. -/
theorem test_decode_alu8_part2_2 : readsAs [
    ([0xBD], .andAtDP_A), ([0xBE, 0xA5], .andAtDP_n 0xA5), ([0xBF], .orA_atDP), ([0xC0], .orAtDP_A),
    ([0xC1, 0xA5], .orAtDP_n 0xA5), ([0xC2], .xorA_atDP), ([0xC3], .xorAtDP_A), ([0xC4, 0xA5], .xorAtDP_n 0xA5)] = true := by decide

/-- 43_muldiv.md: the bytes written out from each encoding. -/
theorem test_decode_muldiv : readsAs [
    ([0x8F], .mulAB), ([0x90, 0xA5], .mulA_n 0xA5), ([0x91], .mulAtDP_AB), ([0x92], .mulCD_AB), ([0x93], .mul16AB_C),
    ([0x94], .divA_B), ([0x95, 0xA5], .divA_n 0xA5), ([0x96], .divAtDP_AB), ([0x97], .divCD_AB), ([0x98], .divnrA_B)] = true := by decide

/-- 44_ext.md: the bytes written out from each encoding. -/
theorem test_decode_ext : readsAs [
    ([0x99], .extA), ([0x9A, 0x9C], .extdirA_oper 0x9C), ([0x9B], .extAtDP_A), ([0x9C], .extCD_A),
    ([0x9D, 0x9C], .extdirlA_oper 0x9C)] = true := by decide

/-- 45_addr16.md: the bytes written out from each encoding. -/
theorem test_decode_addr16 : readsAs [
    ([0x9E], .incDP), ([0x9F], .decDP), ([0xA0], .addDP_A), ([0xA1, 0xF6], .addDP_d 0xF6), ([0xA2], .addCD_AB),
    ([0xA3], .subCD_AB), ([0xA4], .addSP_A), ([0xA5, 0xF6], .addSP_d 0xF6), ([0xB6, 0x34, 0x12], .addCD_nn 0x1234),
    ([0xB7, 0x34, 0x12], .subCD_nn 0x1234)] = true := by decide

/-- 46_control.md: the bytes written out from each encoding. -/
theorem test_decode_control_1 : readsAs [
    ([0x00], .nop), ([0xC5, 0x34, 0x12], .jp_nn 0x1234), ([0xC6, 0x34, 0x12], .jpC_nn 0x1234),
    ([0xC7, 0x34, 0x12], .jpOV_nn 0x1234), ([0xC8, 0x34, 0x12], .jpZ_nn 0x1234),
    ([0xC9, 0x34, 0x12], .jpNEG_nn 0x1234), ([0xCA, 0x34, 0x12], .jpPOS_nn 0x1234),
    ([0xCB, 0x34, 0x12], .jpEQ_nn 0x1234), ([0xCC, 0x34, 0x12], .jpLT_nn 0x1234),
    ([0xCD, 0x34, 0x12], .jpGT_nn 0x1234), ([0xCE, 0xF6], .jpDPd 0xF6), ([0xCF, 0xF6], .jr_d 0xF6),
    ([0xD0, 0xF6], .jrC_d 0xF6), ([0xD1], .di), ([0xD2, 0xF6], .jrOV_d 0xF6), ([0xD3, 0xF6], .jrZ_d 0xF6),
    ([0xD4, 0xF6], .jrNEG_d 0xF6), ([0xD5, 0xF6], .jrPOS_d 0xF6), ([0xD6, 0xF6], .jrEQ_d 0xF6),
    ([0xD7, 0xF6], .jrLT_d 0xF6), ([0xD8, 0xF6], .jrGT_d 0xF6), ([0xD9, 0xF6], .jrNC_d 0xF6),
    ([0xDA, 0xF6], .jrNOV_d 0xF6), ([0xDB, 0xF6], .jrNZ_d 0xF6), ([0xDC, 0xF6], .jrNNEG_d 0xF6),
    ([0xDD, 0xF6], .jrNPOS_d 0xF6), ([0xDE, 0xF6], .jrNEQ_d 0xF6), ([0xDF, 0xF6], .jrNLT_d 0xF6),
    ([0xE0, 0xF6], .jrNGT_d 0xF6), ([0xE1], .ei), ([0xE2, 0xF6], .djnz_d 0xF6),
    ([0xE3, 0x34, 0x12], .call_nn 0x1234), ([0xE4, 0xF6], .callr_d 0xF6), ([0xE5, 0xF6], .callDPd 0xF6),
    ([0xE6], .ret), ([0xE7], .reti)] = true := by decide

/-- 46_control.md: the bytes written out from each encoding. -/
theorem test_decode_control_2 : readsAs [
    ([0xFF], .reset)] = true := by decide

/-- 47_io.md: the bytes written out from each encoding. -/
theorem test_decode_io : readsAs [
    ([0xE8, 0x5B], .outAtS_A 0x5B), ([0xE9, 0x5B], .outAtS_B 0x5B), ([0xEA, 0x5B], .outAtS_C 0x5B),
    ([0xEB, 0x5B], .outAtS_D 0x5B), ([0xEC, 0xA5, 0x5B], .outAtS_n 0xA5 0x5B), ([0xED, 0x5B], .outAtS_atDP 0x5B),
    ([0xEE, 0x5B], .outiAtS_atDP 0x5B), ([0xEF, 0x5B], .outdAtS_atDP 0x5B), ([0xF0, 0x5B], .inA_atS 0x5B),
    ([0xF1, 0x5B], .inB_atS 0x5B), ([0xF2, 0x5B], .inC_atS 0x5B), ([0xF3, 0x5B], .inD_atS 0x5B),
    ([0xF4, 0x5B], .inAtDP_atS 0x5B), ([0xF5, 0x5B], .iniAtDP_atS 0x5B), ([0xF6, 0x5B], .indAtDP_atS 0x5B),
    ([0xF7, 0x5B], .incioAtS 0x5B), ([0xF8, 0x5B], .decioAtS 0x5B), ([0xF9, 0x5B], .andioAtS_A 0x5B),
    ([0xFA, 0x5B, 0xA5], .andioAtS_n 0x5B 0xA5), ([0xFB, 0x5B], .orioAtS_A 0x5B),
    ([0xFC, 0x5B, 0xA5], .orioAtS_n 0x5B 0xA5), ([0xFD, 0x5B], .xorioAtS_A 0x5B),
    ([0xFE, 0x5B, 0xA5], .xorioAtS_n 0x5B 0xA5)] = true := by decide

/-- A missing operand byte and an empty string are refused by name (30_encoding.md R70, R74). -/
theorem test_decode_errors :
    (match decode [] with | .error .empty => true | _ => false) = true ∧
    (match decode [0x30, 0x78, 0x56, 0xBC] with | .error (.truncated 0x30) => true | _ => false) = true ∧
    (match decode [0xC5, 0x34] with | .error (.truncated 0xC5) => true | _ => false) = true := by decide

/-- Well-formedness of byte strings: an empty string is refused. -/
theorem test_wf_refuses_empty : bytesWellFormed [] = false := by decide

/-- A string too short for its opcode's format is refused, one byte per format missing. -/
theorem test_wf_refuses_short :
    ([[0x0D], [0x15], [0xE8], [0x9A], [0xC5, 0x00], [0xEC, 0x00], [0xFA, 0x00], [0x2F, 0, 0], [0x30, 0, 0, 0]] :
      List (List Byte)).all (fun l => !bytesWellFormed l) = true := by decide

/-- A string too long for its opcode's format is refused; one of the right length is not. -/
theorem test_wf_refuses_long :
    bytesWellFormed [0x00, 0x00] = false ∧ bytesWellFormed [0x30, 0, 0, 0, 0, 0] = false ∧
    bytesWellFormed [0x00] = true ∧ bytesWellFormed [0x30, 0, 0, 0, 0] = true := by decide

/-- The opcode table's numbering of bits: the first byte lowest (30_encoding.md R72). -/
theorem test_decodeTableWord :
    decodeTableWord 40 0x9ABC567830 = some (.ldAtDD_atSS 0x5678 0x9ABC) ∧ decodeTableWord 8 0x00 = some .nop ∧
    decodeTableWord 8 0xFFFFFFC5 = some (.jp_nn 0) ∧ decodeTableWord 24 0x105AEC = some (.outAtS_n 0x5A 0x10) := by
  decide

/-! ### One step, from the vectors of 95_test_vectors.md -/

/-- The base state of 95_test_vectors.md: the reset values with PC = 0x0100. -/
def base : State := { State.reset with pc := 0x0100 }

/-- A state with some bytes of memory replaced. -/
def withBytes (s : State) (l : List (Word × Byte)) : State := l.foldl (fun s c => s.store c.1 c.2) s

/-- One step from `start`, with the instruction's bytes at PC and the bytes `mem` in RAM, leaves exactly `after`, the
bytes `written` in memory and the clocks counted. -/
def vec (bytes : List Byte) (start : State) (mem : List (Word × Byte)) (after : State) (written : List (Word × Byte))
    (clocks : Nat) : Bool :=
  let s := withBytes (start.placeBytes start.pc bytes) mem
  match step s with
  | .next t => t == { after with mem := (withBytes s written).mem, cycles := clocks }
  | _ => false

/-- 95_test_vectors.md section 2.1: addressing, byte order, wraps inside a page. -/
theorem test_load_vectors : [
    vec [0x0C] { base with c := 0x81, d := 0x11, f := 0xFF } []
      { base with c := 0x81, d := 0x81, f := 0xFF, pc := 0x0101 } [] 4,
    vec [0x15, 0xFE] { base with dp := 0x4000 } [(0x7FFE, 0x77), (0x3FFE, 0x33)]
      { base with dp := 0x4000, a := 0x77, pc := 0x0102 } [] 7,
    vec [0x16, 0x10] { base with dp := 0x3FFA } [(0x000A, 0x99), (0x400A, 0x44)]
      { base with dp := 0x3FFA, b := 0x99, pc := 0x0102 } [] 7,
    vec [0x17, 0x05] { base with dp := 0x2000, d := 0xFE } [(0x2003, 0x66)]
      { base with dp := 0x2000, d := 0xFE, a := 0x66, pc := 0x0102 } [] 8,
    vec [0x18, 0x80] { base with sp := 0xFFF0, d := 0x80 } [(0xFEF0, 0x21)]
      { base with sp := 0xFFF0, d := 0x80, a := 0x21, pc := 0x0102 } [] 8,
    vec [0x18, 0x7F] { base with sp := 0xFF00, d := 0x7F } [(0xFFFE, 0x22)]
      { base with sp := 0xFF00, d := 0x7F, a := 0x22, pc := 0x0102 } [] 8,
    vec [0x1A, 0x02] { base with sp := 0xFFFE } [(0xC000, 0x5C)]
      { base with sp := 0xFFFE, c := 0x5C, pc := 0x0102 } [] 7,
    vec [0x1F, 0x34, 0x12] base [(0x1234, 0xD0)] { base with d := 0xD0, pc := 0x0103 } [] 5,
    vec [0x24, 0x7F] { base with dp := 0x1F81, a := 0xA5 } []
      { base with dp := 0x1F81, a := 0xA5, pc := 0x0102 } [(0x2000, 0xA5)] 8,
    vec [0x26, 0x01] { base with dp := 0x2000, d := 0x7F, a := 0x3C } []
      { base with dp := 0x2000, d := 0x7F, a := 0x3C, pc := 0x0102 } [(0x2080, 0x3C)] 9].all id = true := by decide

/-- 95_test_vectors.md section 2.1: the last opcode bytes, two-byte moves, exchanges. -/
theorem test_store_exchange_vectors : [
    vec [0x2F, 0x55, 0x00, 0x20] base [] { base with pc := 0x0104 } [(0x2000, 0x55)] 9,
    vec [0x30, 0x00, 0x20, 0x10, 0x21] base [(0x2000, 0xEE)] { base with pc := 0x0105 } [(0x2110, 0xEE)] 10,
    vec [0x31] { base with c := 0x34, d := 0x12 } [(0x1234, 0x9A)]
      { base with c := 0x34, d := 0x12, a := 0x9A, pc := 0x0101 } [] 6,
    vec [0x32] { base with c := 0xFF, d := 0x3F, a := 0x0F } []
      { base with c := 0xFF, d := 0x3F, a := 0x0F, pc := 0x0101 } [(0x3FFF, 0x0F)] 6,
    vec [0x33] { base with dp := 0x3FFF } [(0x3FFF, 0x11), (0x0000, 0x22), (0x4000, 0x33)]
      { base with dp := 0x3FFF, c := 0x11, d := 0x22, pc := 0x0101 } [] 5,
    vec [0x34] { base with dp := 0x2000, c := 0xCC, d := 0xDD } []
      { base with dp := 0x2000, c := 0xCC, d := 0xDD, pc := 0x0101 } [(0x2000, 0xCC), (0x2001, 0xDD)] 6,
    vec [0x35] { base with a := 0x34, b := 0x12 } []
      { base with a := 0x34, b := 0x12, dp := 0x1234, pc := 0x0101 } [] 6,
    vec [0x38, 0x04] { base with sp := 0xFFFE } [] { base with sp := 0xFFFE, dp := 0xC002, pc := 0x0102 } [] 3,
    vec [0x39] { base with a := 0x01, b := 0x02, c := 0x03, d := 0x04 } []
      { base with a := 0x03, b := 0x04, c := 0x01, d := 0x02, pc := 0x0101 } [] 8,
    vec [0x3A] { base with c := 0x34, d := 0x12, dp := 0xABCD } []
      { base with c := 0xCD, d := 0xAB, dp := 0x1234, pc := 0x0101 } [] 7,
    vec [0x3B, 0x00, 0x20] { base with dp := 0xABCD } [(0x2000, 0x78), (0x2001, 0x56)]
      { base with dp := 0x5678, pc := 0x0103 } [(0x2000, 0xCD), (0x2001, 0xAB)] 11,
    vec [0xB4] { base with sp := 0x7FF0 } [] { base with sp := 0x7FF0, c := 0xF0, d := 0x7F, pc := 0x0101 } [] 5,
    vec [0xB5, 0xF0] { base with c := 0x05, d := 0x40 } []
      { base with c := 0x05, d := 0x40, dp := 0x7FF5, pc := 0x0102 } [] 7,
    vec [0xB3, 0xFF] { base with sp := 0xC000, a := 0x5E } []
      { base with sp := 0xC000, a := 0x5E, pc := 0x0102 } [(0xFFFF, 0x5E)] 8].all id = true := by decide

/-- 95_test_vectors.md section 2.2: the frame of PUSH ALL, byte order of pairs, wraps at a page end. -/
theorem test_stack_vectors : [
    vec [0x3C] { base with a := 0xA1 } [] { base with a := 0xA1, sp := 0xFFFE, pc := 0x0101 } [(0xFFFE, 0xA1)] 4,
    vec [0x3E] { base with sp := 0x3000, f := 0xC3 } []
      { base with sp := 0x2FFF, f := 0xC3, pc := 0x0101 } [(0x2FFF, 0xC3)] 4,
    vec [0x41] { base with sp := 0x3000, a := 0xA1, b := 0xB2, c := 0xC3, d := 0xD4, f := 0xF5, dp := 0x1234 } []
      { base with sp := 0x2FF9, a := 0xA1, b := 0xB2, c := 0xC3, d := 0xD4, f := 0xF5, dp := 0x1234, pc := 0x0101 } [(0x2FFF, 0x12), (0x2FFE, 0x34), (0x2FFD, 0xD4), (0x2FFC, 0xC3), (0x2FFB, 0xF5), (0x2FFA, 0xB2), (0x2FF9, 0xA1)] 17,
    vec [0x43, 0x00, 0x20] { base with sp := 0x3000 } [(0x2000, 0x6B)]
      { base with sp := 0x2FFF, pc := 0x0103 } [(0x2FFF, 0x6B)] 8,
    vec [0x46] { base with sp := 0x2FFF } [(0x2FFF, 0xFF)] { base with sp := 0x3000, f := 0xFF, pc := 0x0101 } [] 4,
    vec [0x47] { base with sp := 0x2FFE } [(0x2FFE, 0xCC), (0x2FFF, 0xDD)]
      { base with sp := 0x3000, c := 0xCC, d := 0xDD, pc := 0x0101 } [] 5,
    vec [0x49] { base with sp := 0x2FF9 } [(0x2FF9, 0xA1), (0x2FFA, 0xB2), (0x2FFB, 0xF5), (0x2FFC, 0xC3), (0x2FFD, 0xD4), (0x2FFE, 0x34), (0x2FFF, 0x12)]
      { base with sp := 0x3000, a := 0xA1, b := 0xB2, c := 0xC3, d := 0xD4, f := 0xF5, dp := 0x1234, pc := 0x0101 } [] 10,
    vec [0x4A, 0x00, 0x20] { base with sp := 0x2FFF } [(0x2FFF, 0x3D)]
      { base with sp := 0x3000, pc := 0x0103 } [(0x2000, 0x3D)] 8,
    vec [0x44] { base with sp := 0xFFFF } [(0xFFFF, 0x02), (0x0000, 0x03)]
      { base with sp := 0xC000, a := 0x02, pc := 0x0101 } [] 4,
    vec [0x3F] { base with sp := 0x0001, c := 0xCC, d := 0xDD } []
      { base with sp := 0x3FFF, c := 0xCC, d := 0xDD, pc := 0x0101 } [(0x0000, 0xDD), (0x3FFF, 0xCC)] 6].all id = true := by decide

/-- 95_test_vectors.md section 2.3: ADD, ADDC, SUB, SUBB, with all eight flags. -/
theorem test_add_sub_vectors : [
    vec [0x4B] { base with a := 0x7F, b := 0x01 } []
      { base with a := 0x80, b := 0x01, f := 0x8A, pc := 0x0101 } [] 4,
    vec [0x4B] { base with a := 0x80, b := 0x80 } []
      { base with a := 0x00, b := 0x80, f := 0x27, pc := 0x0101 } [] 4,
    vec [0x51, 0xFF] { base with d := 0x00 } [] { base with d := 0xFF, f := 0x48, pc := 0x0102 } [] 10,
    vec [0x56, 0xFF] { base with a := 0x05, f := 0x01 } [] { base with a := 0x05, f := 0x51, pc := 0x0102 } [] 9,
    vec [0x52] { base with a := 0x40, f := 0x01 } [] { base with a := 0x81, f := 0x4A, pc := 0x0101 } [] 10,
    vec [0x53] { base with a := 0x7F, b := 0x00, f := 0x01 } []
      { base with a := 0x80, b := 0x00, f := 0x8A, pc := 0x0101 } [] 7,
    vec [0x5A] { base with a := 0x80, b := 0x01 } []
      { base with a := 0x7F, b := 0x01, f := 0x92, pc := 0x0101 } [] 5,
    vec [0x64, 0xFF] { base with a := 0x00, f := 0x01 } [] { base with a := 0x00, f := 0x45, pc := 0x0102 } [] 9,
    vec [0x61] { base with a := 0x10, b := 0x0F, f := 0x25 } []
      { base with a := 0x00, b := 0x0F, f := 0x24, pc := 0x0101 } [] 7,
    vec [0x61] { base with a := 0x80, b := 0x00, f := 0x01 } []
      { base with a := 0x7F, b := 0x00, f := 0x92, pc := 0x0101 } [] 7,
    vec [0x6B] { base with a := 0x05, dp := 0x2000, f := 0x01 } [(0x2000, 0x03)]
      { base with a := 0x01, dp := 0x2000, f := 0x90, pc := 0x0101 } [] 9,
    vec [0x6C] { base with a := 0x01, dp := 0x2000 } [(0x2000, 0xFF)]
      { base with a := 0x01, dp := 0x2000, f := 0x85, pc := 0x0101 } [(0x2000, 0x00)] 10,
    vec [0x6E] { base with a := 0x03, dp := 0x2000 } [(0x2000, 0x01)]
      { base with a := 0x03, dp := 0x2000, f := 0x49, pc := 0x0101 } [(0x2000, 0xFE)] 10].all id = true := by decide

/-- 95_test_vectors.md section 2.3: INC, DEC, CLR, CPL and the logic operations. -/
theorem test_inc_logic_vectors : [
    vec [0x70] { base with a := 0xFF } [] { base with a := 0x00, f := 0x85, pc := 0x0101 } [] 7,
    vec [0x71] { base with a := 0x00 } [] { base with a := 0xFF, f := 0x49, pc := 0x0101 } [] 7,
    vec [0x75, 0x00, 0x20] base [(0x2000, 0x80)] { base with f := 0x92, pc := 0x0103 } [(0x2000, 0x7F)] 12,
    vec [0x76] { base with a := 0xEE, f := 0x89 } [] { base with a := 0x00, f := 0x89, pc := 0x0101 } [] 4,
    vec [0x77] { base with a := 0x0F, f := 0x03 } [] { base with a := 0xF0, f := 0x48, pc := 0x0101 } [] 7,
    vec [0x77] { base with a := 0xFF } [] { base with a := 0x00, f := 0x24, pc := 0x0101 } [] 7,
    vec [0x78] { base with a := 0xF0, b := 0x3C, f := 0x03 } []
      { base with a := 0x30, b := 0x3C, f := 0x90, pc := 0x0101 } [] 5,
    vec [0x85, 0x00] { base with d := 0x00 } [] { base with d := 0x00, f := 0x24, pc := 0x0102 } [] 10,
    vec [0x8B, 0xFF] { base with c := 0x55 } [] { base with c := 0xAA, f := 0x48, pc := 0x0102 } [] 10].all id = true := by decide

/-- 95_test_vectors.md section 2.3: CP, TEST and the operations onto memory. -/
theorem test_compare_update_vectors : [
    vec [0x8D] { base with a := 0x10, c := 0x20 } []
      { base with a := 0x10, c := 0x20, f := 0x49, pc := 0x0101 } [] 6,
    vec [0xA7, 0x7F] { base with a := 0x80 } [] { base with a := 0x80, f := 0x92, pc := 0x0102 } [] 6,
    vec [0xAB] { base with a := 0x09, dp := 0x2000 } [(0x2000, 0x08)]
      { base with a := 0x09, dp := 0x2000, f := 0x90, pc := 0x0101 } [] 6,
    vec [0xAC, 0x10] { base with dp := 0x2000 } [(0x2000, 0x0F)]
      { base with dp := 0x2000, f := 0x49, pc := 0x0102 } [] 9,
    vec [0xAD, 0x80] { base with a := 0x7F } [] { base with a := 0x7F, f := 0x44, pc := 0x0102 } [] 6,
    vec [0xB8, 0x01] { base with dp := 0x2000 } [(0x2000, 0x7F)]
      { base with dp := 0x2000, f := 0x8A, pc := 0x0102 } [(0x2000, 0x80)] 10,
    vec [0xBB, 0x00] { base with dp := 0x2000, f := 0x01 } [(0x2000, 0x00)]
      { base with dp := 0x2000, f := 0x49, pc := 0x0102 } [(0x2000, 0xFF)] 10,
    vec [0xBE, 0xFE] { base with dp := 0x2000 } [(0x2000, 0xFF)]
      { base with dp := 0x2000, f := 0x88, pc := 0x0102 } [(0x2000, 0xFE)] 10,
    vec [0xC0] { base with dp := 0x2000, a := 0x0F } [(0x2000, 0xF0)]
      { base with dp := 0x2000, a := 0x0F, f := 0x88, pc := 0x0101 } [(0x2000, 0xFF)] 10,
    vec [0xC2] { base with dp := 0x2000, a := 0xAA } [(0x2000, 0xFF)]
      { base with dp := 0x2000, a := 0x55, f := 0x50, pc := 0x0101 } [] 7,
    vec [0xC4, 0x01] { base with dp := 0x2000 } [(0x2000, 0x01)]
      { base with dp := 0x2000, f := 0x24, pc := 0x0102 } [(0x2000, 0x00)] 10].all id = true := by decide

/-- 95_test_vectors.md section 2.4. -/
theorem test_muldiv_vectors : [
    vec [0x8F] { base with a := 0xFF, b := 0xFF, f := 0xFF } []
      { base with a := 0x01, b := 0xFE, f := 0xFF, pc := 0x0101 } [] 7,
    vec [0x90, 0x03] { base with a := 0x64, b := 0x77 } [] { base with a := 0x2C, b := 0x01, pc := 0x0102 } [] 7,
    vec [0x91] { base with a := 0xFF, b := 0x02, dp := 0x3FFF } []
      { base with a := 0xFF, b := 0x02, dp := 0x3FFF, pc := 0x0101 } [(0x3FFF, 0xFE), (0x0000, 0x01)] 5,
    vec [0x92] { base with a := 0xC8, b := 0xC8 } []
      { base with a := 0xC8, b := 0xC8, c := 0x40, d := 0x9C, pc := 0x0101 } [] 5,
    vec [0x93] { base with a := 0xFF, b := 0xFF, c := 0xFF } []
      { base with a := 0x01, b := 0xFF, c := 0xFE, pc := 0x0101 } [] 21,
    vec [0x94] { base with a := 0xC8, b := 0x07 } [] { base with a := 0x1C, b := 0x04, pc := 0x0101 } [] 7,
    vec [0x95, 0x10] { base with a := 0xFF, b := 0x99 } [] { base with a := 0x0F, b := 0x0F, pc := 0x0102 } [] 7,
    vec [0x96] { base with a := 0x64, b := 0x0A, dp := 0x2000 } []
      { base with a := 0x64, b := 0x0A, dp := 0x2000, pc := 0x0101 } [(0x2000, 0x0A), (0x2001, 0x00)] 5,
    vec [0x97] { base with a := 0x05, b := 0x09 } []
      { base with a := 0x05, b := 0x09, d := 0x05, pc := 0x0101 } [] 5,
    vec [0x98] { base with a := 0x64, b := 0x07 } [] { base with a := 0x0E, b := 0x07, pc := 0x0101 } [] 4].all id = true := by decide

/-- 95_test_vectors.md section 2.5. -/
theorem test_ext_instruction_vectors : [
    vec [0x99] { base with a := 0x31, b := 0x74 } [] { base with a := 0x0C, b := 0x40, pc := 0x0101 } [] 7,
    vec [0x9A, 0x74] { base with a := 0x31, b := 0xEE } [] { base with a := 0x0C, b := 0x40, pc := 0x0102 } [] 7,
    vec [0x9B] { base with a := 0x31, b := 0x74, dp := 0x2000 } []
      { base with a := 0x31, b := 0x74, dp := 0x2000, pc := 0x0101 } [(0x2000, 0x0C), (0x2001, 0x40)] 5,
    vec [0x9C] { base with a := 0x0C, b := 0xE8 } []
      { base with a := 0x0C, b := 0xE8, c := 0x90, pc := 0x0101 } [] 5,
    vec [0x9D, 0xE8] { base with a := 0x14, b := 0x77 } [] { base with a := 0x90, b := 0x77, pc := 0x0102 } [] 6,
    vec [0x9A, 0xE0] { base with a := 0x00, b := 0x55, f := 0x00 } []
      { base with a := 0xFF, b := 0x00, f := 0x00, pc := 0x0102 } [] 7,
    vec [0x99] { base with a := 0xD3, b := 0xBD } [] { base with a := 0x30, b := 0x04, pc := 0x0101 } [] 7].all id = true := by decide

/-- 95_test_vectors.md section 2.7. -/
theorem test_pair_address_vectors : [
    vec [0x9E] { base with dp := 0x3FFF, f := 0x00 } [] { base with dp := 0x0000, f := 0x00, pc := 0x0101 } [] 3,
    vec [0x9F] { base with dp := 0x4000 } [] { base with dp := 0x7FFF, pc := 0x0101 } [] 3,
    vec [0x9F] { base with dp := 0x8080 } [] { base with dp := 0x807F, pc := 0x0101 } [] 3,
    vec [0xA0] { base with dp := 0x2000, a := 0x80 } [] { base with dp := 0x1F80, a := 0x80, pc := 0x0101 } [] 4,
    vec [0xA0] { base with dp := 0x2000, a := 0x7F } [] { base with dp := 0x207F, a := 0x7F, pc := 0x0101 } [] 4,
    vec [0xA1, 0xFF] { base with dp := 0x0000 } [] { base with dp := 0x3FFF, pc := 0x0102 } [] 3,
    vec [0xA5, 0x14] { base with sp := 0x7FF0 } [] { base with sp := 0x4004, pc := 0x0102 } [] 3,
    vec [0xA4] { base with sp := 0xFFFE, a := 0x02 } [] { base with sp := 0xC000, a := 0x02, pc := 0x0101 } [] 4,
    vec [0xA2] { base with c := 0xFF, d := 0x00, a := 0x01, b := 0x00 } []
      { base with c := 0x00, d := 0x01, a := 0x01, b := 0x00, f := 0x50, pc := 0x0101 } [] 13,
    vec [0xA2] { base with c := 0xFF, d := 0xFF, a := 0x01, b := 0x00 } []
      { base with c := 0x00, d := 0x00, a := 0x01, b := 0x00, f := 0x85, pc := 0x0101 } [] 13,
    vec [0xA3] { base with c := 0x00, d := 0x00, a := 0x01, b := 0x00 } []
      { base with c := 0xFF, d := 0xFF, a := 0x01, b := 0x00, f := 0x49, pc := 0x0101 } [] 13,
    vec [0xB6, 0x34, 0x12] { base with c := 0x11, d := 0x11 } []
      { base with c := 0x45, d := 0x23, f := 0x50, pc := 0x0103 } [] 14,
    vec [0xB7, 0x00, 0x10] { base with c := 0x00, d := 0x10 } []
      { base with c := 0x00, d := 0x00, f := 0x24, pc := 0x0103 } [] 14,
    vec [0xA2] { base with c := 0x01, d := 0x00, a := 0xFF, b := 0xFF, f := 0x01 } []
      { base with c := 0x00, d := 0x00, a := 0xFF, b := 0xFF, f := 0x45, pc := 0x0101 } [] 13].all id = true := by decide

/-- 95_test_vectors.md section 2.8: jumps, both outcomes, wraps inside a page. -/
theorem test_jump_vectors : [
    vec [0x00] { base with f := 0xFF } [] { base with f := 0xFF, pc := 0x0101 } [] 2,
    vec [0xC5, 0x34, 0x12] base [] { base with pc := 0x1234 } [] 4,
    vec [0xC8, 0x00, 0x40] { base with f := 0x04 } [] { base with f := 0x04, pc := 0x4000 } [] 4,
    vec [0xC8, 0x00, 0x40] { base with f := 0xFB } [] { base with f := 0xFB, pc := 0x0103 } [] 4,
    vec [0xC6, 0xFF, 0xFF] { base with f := 0x01 } [] { base with f := 0x01, pc := 0xFFFF } [] 4,
    vec [0xCE, 0xFE] { base with dp := 0x4001 } [] { base with dp := 0x4001, pc := 0x7FFF } [] 3,
    vec [0xCF, 0xFD] base [] { base with pc := 0x00FF } [] 3,
    vec [0xCF, 0xF6] { base with pc := 0x3FFE } [] { base with pc := 0x7FF6 } [] 3,
    vec [0xCF, 0xF6] { base with pc := 0x4000 } [] { base with pc := 0x7FF8 } [] 3,
    vec [0xDB, 0xFC] { base with f := 0x00 } [] { base with f := 0x00, pc := 0x00FE } [] 3,
    vec [0xDB, 0xFC] { base with f := 0x04 } [] { base with f := 0x04, pc := 0x0102 } [] 3,
    vec [0xE0, 0x05] { base with f := 0x80 } [] { base with f := 0x80, pc := 0x0102 } [] 3,
    vec [0xD9, 0x05] { base with f := 0xFE } [] { base with f := 0xFE, pc := 0x0107 } [] 3,
    vec [0xE2, 0xFE] { base with b := 0x02 } [] { base with b := 0x01, pc := 0x0100 } [] 10,
    vec [0xE2, 0xFE] { base with b := 0x01 } [] { base with b := 0x00, pc := 0x0102 } [] 10,
    vec [0xE2, 0xFE] { base with b := 0x00, f := 0x00 } [] { base with b := 0xFF, f := 0x00, pc := 0x0100 } [] 10].all id = true := by decide

/-- 95_test_vectors.md section 2.8: calls, returns, EI, DI, RETI, RESET. -/
theorem test_call_return_vectors : [
    vec [0xE3, 0x00, 0x40] { base with sp := 0x3000 } []
      { base with sp := 0x2FFE, pc := 0x4000 } [(0x2FFF, 0x01), (0x2FFE, 0x03)] 9,
    vec [0xE4, 0x10] { base with sp := 0x3000 } []
      { base with sp := 0x2FFE, pc := 0x0112 } [(0x2FFF, 0x01), (0x2FFE, 0x02)] 8,
    vec [0xE5, 0xFF] { base with sp := 0x3000, dp := 0x2000 } []
      { base with sp := 0x2FFE, dp := 0x2000, pc := 0x1FFF } [(0x2FFF, 0x01), (0x2FFE, 0x02)] 9,
    vec [0xE6] { base with sp := 0xFFFF } [(0xFFFF, 0x34), (0xC000, 0x12)]
      { base with sp := 0xC001, pc := 0x1234 } [] 5,
    vec [0xE1] base [] { base with pc := 0x0101, ie := true } [] 4,
    vec [0xD1] { base with ie := true } [] { base with ie := false, pc := 0x0101 } [] 4,
    vec [0xE7] { base with sp := 0x2FFE } [(0x2FFE, 0x03), (0x2FFF, 0x01)]
      { base with sp := 0x3000, pc := 0x0103, ie := true, noSample := true } [] 5,
    vec [0xFF] { base with a := 0x11, b := 0x22, c := 0x33, d := 0x44, f := 0xFF, sp := 0x1234, dp := 0x5678, ie := true } [(0x2000, 0xAA)]
      { base with a := 0x00, b := 0x00, c := 0x00, d := 0x00, f := 0x24, sp := 0xFFFF, dp := 0x8080, ie := false, pc := 0x0000 } [] 19].all id = true := by decide

/-- 95_test_vectors.md section 2.9. -/
theorem test_io_vectors : [
    vec [0xEB, 0xFF] { base with d := 0x0D } [] { base with d := 0x0D, pc := 0x0102 } [(0x80FF, 0x0D)] 8,
    vec [0xEC, 0x77, 0x10] base [] { base with pc := 0x0103 } [(0x8010, 0x77)] 11,
    vec [0xED, 0x10] { base with dp := 0x2000 } [(0x2000, 0x42)]
      { base with dp := 0x2000, pc := 0x0102 } [(0x8010, 0x42)] 12,
    vec [0xEE, 0x10] { base with dp := 0x3FFF } [(0x3FFF, 0x42)]
      { base with dp := 0x0000, pc := 0x0102 } [(0x8010, 0x42)] 12,
    vec [0xEF, 0x10] { base with dp := 0x2000 } [(0x2000, 0x42)]
      { base with dp := 0x1FFF, pc := 0x0102 } [(0x8010, 0x42)] 12,
    vec [0xF0, 0x10] { base with f := 0xFF } [(0x8010, 0x00)] { base with f := 0xFF, pc := 0x0102 } [] 7,
    vec [0xF4, 0x10] { base with dp := 0x2000 } [(0x8010, 0x99)]
      { base with dp := 0x2000, pc := 0x0102 } [(0x2000, 0x99)] 9,
    vec [0xF5, 0x10] { base with dp := 0x2000 } [(0x8010, 0x99)]
      { base with dp := 0x2001, pc := 0x0102 } [(0x2000, 0x99)] 10,
    vec [0xF6, 0x10] { base with dp := 0x4000 } [(0x8010, 0x99)]
      { base with dp := 0x7FFF, pc := 0x0102 } [(0x4000, 0x99)] 10,
    vec [0xF7, 0x10] base [(0x8010, 0xFF)] { base with f := 0x85, pc := 0x0102 } [(0x8010, 0x00)] 13,
    vec [0xF8, 0x10] base [(0x8010, 0x01)] { base with f := 0x24, pc := 0x0102 } [(0x8010, 0x00)] 13,
    vec [0xF9, 0x10] { base with a := 0x0F } [(0x8010, 0x3C)]
      { base with a := 0x0F, f := 0x50, pc := 0x0102 } [(0x8010, 0x0C)] 11,
    vec [0xFA, 0x10, 0xF0] base [(0x8010, 0x3C)] { base with f := 0x50, pc := 0x0103 } [(0x8010, 0x30)] 14,
    vec [0xFB, 0x10] { base with a := 0x80 } [(0x8010, 0x01)]
      { base with a := 0x80, f := 0x88, pc := 0x0102 } [(0x8010, 0x81)] 11,
    vec [0xFD, 0x10] { base with a := 0xFF } [(0x8010, 0xFF)]
      { base with a := 0xFF, f := 0x24, pc := 0x0102 } [(0x8010, 0x00)] 11,
    vec [0xFE, 0x10, 0x01] base [(0x8010, 0xFE)] { base with f := 0x88, pc := 0x0103 } [(0x8010, 0xFF)] 14].all id = true := by decide

/-! ### The function EXT -/

/-- Each (argument, selector, result) triple is as `ext` says. -/
def extIs (l : List (Byte × Byte × Word)) : Bool := l.all fun x => ext x.1 x.2.1 == x.2.2

/-- 95_test_vectors.md section 2.6, X-1 to X-27: insertion, slicing, shifting (the manual's own examples among them). -/
theorem test_ext_field_values : extIs [
    (0x05, 0x59, 0x0050), (0x05, 0x19, 0xFFDF), (0x31, 0x74, 0x400C), (0x31, 0x34, 0x7FFC),
    (0xFF, 0x7F, 0xFC01), (0xFF, 0x40, 0x0000), (0xFF, 0x00, 0xFFFF), (0xAA, 0x78, 0x0054),
    (0x01, 0x0F, 0xFFFF), (0x00, 0x0F, 0xFFFE), (0xA7, 0xA9, 0x0009), (0xD3, 0xBD, 0x0430),
    (0x97, 0xA0, 0x0009), (0xFF, 0x80, 0x0000), (0xFF, 0xBF, 0x0640), (0x81, 0x8F, 0x0001),
    (0x81, 0xB8, 0x0040), (0x81, 0xC1, 0x0102), (0xFF, 0xC7, 0x7F80), (0x81, 0xC9, 0x8040),
    (0xFF, 0xCF, 0xFE01), (0x5A, 0xC0, 0x005A), (0x5A, 0xC8, 0x005A), (0x81, 0xD1, 0x0003),
    (0x81, 0xD9, 0x00C0), (0x12, 0xD4, 0x0021), (0x12, 0xDC, 0x0021)] = true := by decide

/-- 95_test_vectors.md section 2.6, X-28 to X-76, where both bytes are stated. -/
theorem test_ext_math_values : extIs [
    (0x5A, 0xE0, 0x00A5), (0xFF, 0xE8, 0xFE01), (0x28, 0xE9, 0xFA00), (0x29, 0xE9, 0xFFFF),
    (0x02, 0xEA, 0x016A), (0xFF, 0xEA, 0x0FF8), (0x1B, 0xEB, 0x0300), (0x0B, 0xEC, 0xE9E2),
    (0x0C, 0xEC, 0xFFFF), (0x01, 0xED, 0x0000), (0xFF, 0xEE, 0x07FF), (0x64, 0xEF, 0x0200),
    (0x00, 0xED, 0x8000), (0x40, 0xF0, 0x7FFF), (0xC0, 0xF0, 0x8000), (0x80, 0xF0, 0x0000),
    (0x80, 0xF1, 0xC000), (0x7F, 0xF1, 0x3AE7), (0x00, 0xF2, 0x7FFF), (0x80, 0xF2, 0x8001),
    (0x7F, 0xF3, 0x0000), (0x81, 0xF3, 0x7FFF), (0x40, 0xF4, 0x0100), (0x7F, 0xF4, 0x517C),
    (0x10, 0xF5, 0x4000), (0x80, 0xF5, 0x8A22), (0x80, 0xF6, 0x4000), (0x80, 0xF7, 0xFFFF),
    (0x80, 0xF8, 0x4000), (0x80, 0xF9, 0x2000), (0x40, 0xFA, 0x8000), (0x20, 0xFB, 0x8000),
    (0xFF, 0xFC, 0x02B5), (0x80, 0xFD, 0xFF4F), (0x80, 0xFE, 0xFF00), (0x01, 0xFF, 0xFD97)] = true := by decide

/-- 95_test_vectors.md section 2.6, X-29 to X-39: the low byte, where the manual does not state all of the high one. -/
theorem test_ext_low_bytes :
    lo8 (ext 0x1E 0xE1) = 0xE1 ∧ lo8 (ext 0x01 0xE2) = 0x80 ∧ lo8 (ext 0xB7 0xE3) = 0x06 ∧
    lo8 (ext 0x01 0xE4) = 0xFF ∧ lo8 (ext 0x80 0xE4) = 0x80 ∧ lo8 (ext 0xF0 0xE5) = 0xF8 ∧
    lo8 (ext 0x01 0xE5) = 0x00 ∧ lo8 (ext 0x80 0xE6) = 0x80 ∧ lo8 (ext 0xFF 0xE7) = 0x81 ∧
    lo8 (ext 0x81 0xE7) = 0xFF ∧ lo8 (ext 0x7F 0xE7) = 0x7F := by
  have h : ∀ {hi lo v : Byte}, lo = v → lo8 (join16 hi lo) = v := fun e => (lo8_join16 _ _).trans e
  exact ⟨h rfl, h rfl, h rfl, h rfl, h rfl, h rfl, h rfl, h rfl, h rfl, h rfl, h rfl⟩

/-! ### Order of the accesses, interrupts, reset, placing an instruction -/

/-- Every address but the code is a device: the accesses of one step, in order. -/
def accesses (bytes : List Byte) (start : State) : List (Bool × Nat) :=
  let s := { start.placeBytes start.pc bytes with memMap := [⟨0x0100, 0x0104, .ram⟩, ⟨0, 0xFFFF, .device⟩] }
  match step s with
  | .next t => t.busLog.reverse.map fun x => (x.direction == .write, x.address.toNat)
  | _ => []

/-- 95_test_vectors.md T40-18, T40-22, T40-29, T41-3, T47-12: reads (false) and writes (true) in the stated order. -/
theorem test_access_order :
    accesses [0x30, 0x00, 0x20, 0x10, 0x21] base = [(false, 0x2000), (true, 0x2110)] ∧
    accesses [0x34] { base with dp := 0x3FFF } = [(true, 0x3FFF), (true, 0x0000)] ∧
    accesses [0x3B, 0x00, 0x20] base = [(false, 0x2000), (false, 0x2001), (true, 0x2000), (true, 0x2001)] ∧
    accesses [0x3F] { base with sp := 0x3000 } = [(true, 0x2FFF), (true, 0x2FFE)] ∧
    accesses [0xF7, 0x10] base = [(false, 0x8010), (true, 0x8010)] ∧
    accesses [0xAC, 0x10] { base with dp := 0x2000 } = [(false, 0x2000)] := by decide

/-- The state of vector I-1: an interrupt with pointer 8 is presented. -/
def i1 : State :=
  { withBytes base [(0x0010, 0x02), (0x0011, 0x40), (0x4002, 0xE7), (0x1234, 0x00)] with
    pc := 0x1234, ie := true, inputs := [.interrupt 8] }

/-- 95_test_vectors.md I-1, step 1 (the manual's example): PC = 0x4002 after 14 clocks, the old PC pushed, IE 0. -/
theorem test_interrupt_response :
    (match step i1 with
    | .next t => t == { withBytes i1 [(0xFFFE, 0x12), (0xFFFD, 0x34)] with
        sp := 0xFFFD, pc := 0x4002, ie := false, inputs := [], cycles := 14 }
    | _ => false) = true := by decide

/-- I-1, step 3: with NOSAMPLE set the instruction runs although INT is 1 and IE is set. -/
theorem test_interrupt_grace :
    (match step { i1 with noSample := true } with
    | .next t => t == { i1 with pc := 0x1235, noSample := false, inputs := [], cycles := 2 }
    | _ => false) = true := by decide

/-- I-4, step 1: with IE = 0 a request is not taken. -/
theorem test_interrupt_masked :
    (match step { i1 with ie := false } with
    | .next t => t == { i1 with pc := 0x1235, ie := false, inputs := [], cycles := 2 }
    | _ => false) = true := by decide

/-- RS-1: a reset input reloads the registers and leaves memory, whatever was going on. -/
theorem test_reset_input :
    (match step { i1 with a := 1, f := 0xFF, sp := 0x1234, dp := 0, noSample := true, inputs := [.reset] } with
    | .next t => decide ({ t with cycles := 0 } = { State.reset with mem := i1.mem })
    | _ => false) = true := by decide

/-- The encoding of `LD A, n` placed after reset is the first instruction that runs. -/
theorem test_withFetchWord :
    (match step (State.reset.withFetchWord 16 0x7F0D) with
    | .next t => t.a == 0x7F && t.pc == 2 && t.cycles == 3
    | _ => false) = true := by decide

/-- An instruction placed where a device answers is run too (log 39). -/
theorem test_withFetchWord_device :
    (match step ({ i1 with memMap := [⟨0, 0xFFFF, .device⟩] }.withFetchWord 8 0xD1) with
    | .next t => t.ie == false && t.pc == 0x1235
    | _ => false) = true := by decide

/-! ### Witnesses: the hypotheses of each statement are met -/

/-- `base` with `NOP` at PC. -/
def nopAt : State := withBytes base [(0x0100, 0x00)]

/-- The state one instruction leaves, or the state it started in. -/
def after (i : Instr) (s : State) : State :=
  match exec i s with
  | .next t => t
  | _ => s

theorem witness_EncodeDecode : decode [0xC5, 0x34, 0x12, 0x00] = .ok (.jp_nn 0x1234, [0x00]) := rfl

/-- Both clauses, at the length where they meet. -/
theorem witness_DecodeTotal :
    (formatOf 0x30).length ≤ [(0 : Byte), 0, 0, 0].length + 1 ∧ [(0 : Byte), 0, 0].length + 1 < (formatOf 0x30).length := by
  decide

/-- All three ways to reach an instruction: no request, a request after RETI, a request with IE = 0. -/
theorem witness_ExecutesInstruction :
    ExecutesInstruction nopAt ∧ ExecutesInstruction { i1 with noSample := true } ∧
    ExecutesInstruction { i1 with ie := false } :=
  ⟨.inl rfl, .inr ⟨8, rfl, .inl rfl⟩, .inr ⟨8, rfl, .inr rfl⟩⟩

theorem witness_StepRunsDecodedInstruction :
    ExecutesInstruction nopAt ∧ Instr.nop.wellFormed = true ∧
    FetchesBytes (afterBoundary nopAt) (encode .nop) { nopAt with pc := 0x0101 } :=
  ⟨.inl rfl, rfl, nopAt, ⟨by decide, rfl⟩, rfl⟩

/-- `LD A, 0x7F` at the end of the address space, where PC comes round to 0. -/
def lastAt : State := { withBytes base [(0x0000, 0x7F), (0xFFFF, 0x0D)] with pc := 0xFFFF }

theorem witness_StepRunsInstructionInMemory :
    ExecutesInstruction lastAt ∧ ∀ k, (h : k < (encode (.ldA_n 0x7F)).length) →
      (lastAt.kindAt (lastAt.pc + BitVec.ofNat 16 k) = .ram ∨ lastAt.kindAt (lastAt.pc + BitVec.ofNat 16 k) = .rom) ∧
      lastAt.stored (lastAt.pc + BitVec.ofNat 16 k) = (encode (.ldA_n 0x7F))[k] := by
  refine ⟨.inl rfl, fun k h => ?_⟩
  match k, h with
  | 0, _ => exact ⟨.inl rfl, rfl⟩
  | 1, _ => exact ⟨.inl rfl, rfl⟩

theorem witness_MemoryFormKept :
    nopAt.mem.wf = true ∧ step nopAt = .next { nopAt with pc := 0x0101, cycles := 2 } := ⟨by decide, rfl⟩

/-- The three clauses of CyclesCounted; each is also a step for EnvironmentKept and StepNeverStops. -/
theorem witness_CyclesCounted :
    (ExecutesInstruction nopAt ∧ step nopAt = .next { nopAt with pc := 0x0101, cycles := 2 }) ∧
    (TakesInterrupt i1 8 ∧ ∃ t, step i1 = .next t) ∧
    ({ i1 with inputs := [.reset] }.input = .reset ∧ ∃ t, step { i1 with inputs := [.reset] } = .next t) :=
  ⟨⟨.inl rfl, rfl⟩, ⟨⟨rfl, rfl, rfl⟩, _, rfl⟩, rfl, _, rfl⟩

theorem witness_EnvironmentKept : ∃ t, step { i1 with inputs := [.interrupt 8, .quiet] } = .next t := ⟨_, rfl⟩

/-- A push and a step of DP that wrap inside their page. -/
theorem witness_PagesKept :
    (exec .pushA { base with sp := 0xC000 } = .next (after .pushA { base with sp := 0xC000 }) ∧ loadsSp .pushA = false) ∧
    (exec .incDP { base with dp := 0x3FFF } = .next { base with dp := 0x0000 } ∧ loadsDp .incDP = false) :=
  ⟨⟨rfl, by decide⟩, rfl, by decide⟩

theorem witness_FlagWriters : exec .clrA base = .next base ∧ writesF .clrA = false := ⟨rfl, by decide⟩

theorem witness_FlagsOneHot :
    exec .addA_B { base with a := 0xFF, b := 1 } = .next { base with a := 0, b := 1, f := 0x85 } ∧
    writesFlags .addA_B = true := ⟨rfl, by decide⟩

theorem witness_InterruptEnableWriters : exec .clrA base = .next base ∧ writesIe .clrA = false := ⟨rfl, by decide⟩

theorem witness_ProgramCounterWriters : exec .clrA base = .next base ∧ writesPc .clrA = false := ⟨rfl, by decide⟩

/-- Both clauses of the vector address, at the pointers 127 and 128. -/
theorem witness_InterruptTaken :
    (TakesInterrupt { i1 with inputs := [.interrupt 127] } 127 ∧ (127 : Byte).toNat < 128) ∧
    (TakesInterrupt { i1 with inputs := [.interrupt 128] } 128 ∧ 128 ≤ (128 : Byte).toNat) :=
  ⟨⟨⟨rfl, rfl, rfl⟩, by decide⟩, ⟨rfl, rfl, rfl⟩, by decide⟩

/-- The RETI, then the instruction after it, then the boundary of the last clauses, with a pointer above 127. -/
theorem witness_ReturnGrace :
    let s := { withBytes i1 [(0x2FFE, 0x34), (0x2FFF, 0x12)] with sp := 0x2FFE, ie := false, inputs := [] }
    let t := { s with sp := 0x3000, pc := 0x1234, ie := true, noSample := true }
    let u := { t with pc := 0x1235, noSample := false, inputs := [.interrupt 128], cycles := 2 }
    exec .reti s = .next t ∧ step { t with inputs := [.interrupt 8, .interrupt 128] } = .next u ∧
    u.inputs = .interrupt 128 :: [] ∧ u.ie = true ∧ u.noSample = false := ⟨rfl, rfl, rfl, rfl, rfl⟩

theorem witness_ResetSequence : { base with inputs := [.reset, .quiet] }.input = .reset := rfl

/-- The handler changed A and F; SP is at the bottom of a page. -/
theorem witness_InterruptThenReturn :
    let s := { i1 with sp := 0xC000 }
    let t := { withBytes s [(0xFFFF, 0x12), (0xFFFE, 0x34)] with
      sp := 0xFFFE, pc := 0x4002, ie := false, inputs := [], cycles := 14 }
    let u := { t with a := 0x55, f := 0xFF }
    TakesInterrupt s 8 ∧ StackIsRam s (padd s.sp 0xFFFE) 2 ∧ step s = .next t ∧
    u.sp = t.sp ∧ u.mem = t.mem ∧ u.memMap = t.memMap :=
  ⟨⟨rfl, rfl, rfl⟩, ⟨by decide, by decide, trivial⟩, rfl, rfl, rfl, rfl⟩

theorem witness_CallThenReturn : StackIsRam { base with sp := 0xC001 } (padd 0xC001 0xFFFE) 2 :=
  ⟨by decide, by decide, trivial⟩

/-- The stack wraps inside its page, and the registers differ when POP ALL starts. -/
theorem witness_PopAllUndoesPushAll :
    let s := { base with sp := 0xC003, a := 1 }
    let t := after .pushALL s
    let u := { t with a := 9, dp := 7 }
    StackIsRam s (padd s.sp 0xFFF9) 7 ∧ exec .pushALL s = .next t ∧ u.sp = t.sp ∧ u.mem = t.mem ∧ u.memMap = t.memMap :=
  ⟨⟨by decide, by decide, by decide, by decide, by decide, by decide, by decide, trivial⟩, rfl, rfl, rfl, rfl⟩

/-- Both clauses, at the smallest and the largest divisor. -/
theorem witness_Divide : { base with b := 1 }.b ≠ 0 ∧ (255 : Byte) ≠ 0 := by decide

theorem witness_DivideByZero : base.b = 0 := rfl

/-- Reset and set masks at their last selectors; a bit inside the field and one outside it. -/
theorem witness_ExtInsertionMasks :
    ((63 : Byte).toNat < 128 ∧ 13 < 16 ∧ 63 % 8 ≤ 13 ∧ 13 < 63 % 8 + 63 / 8 % 8) ∧
    ((127 : Byte).toNat < 128 ∧ 14 < 16 ∧ ¬ 14 < 127 % 8 + 127 / 8 % 8) := by decide

theorem witness_InsertedFieldReplaced :
    (63 : Byte).toNat < 64 ∧ 13 < 16 ∧ 13 < 63 % 8 + 63 / 8 % 8 ∧ 14 < 16 ∧ ¬ 14 < 63 % 8 + 63 / 8 % 8 := by decide

/-- P + L = 8 with L = 7, P + L = 9, and L = 0, at selectors from the first to the last. -/
theorem witness_ExtSlicing :
    (128 ≤ (0xB9 : Byte).toNat ∧ (0xB9 : Byte).toNat < 192 ∧ 0xB9 % 8 + 0xB9 / 8 % 8 = 8) ∧
    (128 ≤ (0xBA : Byte).toNat ∧ (0xBA : Byte).toNat < 192 ∧ 0xBA % 8 + 0xBA / 8 % 8 = 9) ∧
    (128 ≤ (0x80 : Byte).toNat ∧ (0x80 : Byte).toNat < 192 ∧ 0x80 / 8 % 8 = 0) ∧
    (128 ≤ (0xBF : Byte).toNat ∧ (0xBF : Byte).toNat < 192 ∧ 8 < 0xBF % 8 + 0xBF / 8 % 8) := by decide

/-- The shift counts 0, 1 and 7, for O46 and O47. -/
theorem witness_ExtShifts : 0 < 8 ∧ (1 < 8 ∧ 1 ≤ 1) ∧ (7 < 8 ∧ 1 ≤ 7) := by decide

/-- The sign-magnitude clauses at their last and first argument. -/
theorem witness_ExtBitwise : (127 : Byte).toNat < 128 ∧ 128 < (129 : Byte).toNat := by decide

/-- The cube clauses where they meet, and the fractional square on both sides of its excluded argument. -/
theorem witness_ExtPowers :
    (40 : Byte).toNat ≤ 40 ∧ 41 ≤ (41 : Byte).toNat ∧ (0x7F : Byte) ≠ 0x80 ∧ (0x81 : Byte) ≠ 0x80 := by decide

/-- Also the clause of O51 on the logarithms. -/
theorem witness_ExtRootsAndLogarithms : 1 ≤ (1 : Byte).toNat ∧ 1 ≤ (255 : Byte).toNat := by decide

theorem witness_ExtTranscendental :
    12 ≤ (12 : Byte).toNat ∧ ((63 : Byte) ≠ 64 ∧ (63 : Byte) ≠ 0xC0) ∧
    ((0x7E : Byte) ≠ 0x80 ∧ (0x7E : Byte) ≠ 127 ∧ (0x7E : Byte) ≠ 0x81) ∧ (254 : Byte) ≠ 255 := by decide

theorem witness_PairFlags :
    (∃ t, exec .addCD_AB { base with a := 0xFF, b := 0x7F, c := 1 } = .next t) ∧
    (∃ t, exec .subCD_AB { base with a := 1 } = .next t) ∧
    (∃ t, exec (.addCD_nn 0xFFFF) { base with c := 1 } = .next t) ∧ ∃ t, exec (.subCD_nn 1) base = .next t :=
  ⟨⟨_, rfl⟩, ⟨_, rfl⟩, ⟨_, rfl⟩, _, rfl⟩

/-- Every flag of the jumps at 1 and at 0. -/
theorem witness_Jumps :
    (∀ k < 8, { base with f := 0xFF }.f.getLsbD k = true) ∧ ∀ k < 8, { base with f := 0 }.f.getLsbD k = false := by decide

/-- DJNZ: B becomes 0; B becomes 0xFF. -/
theorem witness_RelativeJumps : { base with b := 1 }.b = 1 ∧ { base with b := 0 }.b ≠ 1 := by decide

theorem witness_InputOutputIsMemory : { base with dp := 0x80FF }.dp = ioAddress 0xFF := by decide

end Sys2Proof.Machine
end

section
/-! PROOF. The elementary operations of 00_scope.md R10, R11 and 10_state.md R20, R21 (O25). -/

namespace Sys2Proof.Machine

/-! ### The pairs in integers -/

theorem ab_toNat (s : State) : s.ab.toNat = s.b.toNat * 256 + s.a.toNat := join16_toNat s.b s.a

theorem cd_toNat (s : State) : s.cd.toNat = s.d.toNat * 256 + s.c.toNat := join16_toNat s.d s.c

/-! ### A register write as the state with one field replaced -/

theorem setReg_A_eq (s : State) (v : Byte) : s.setReg .A v = { s with a := v } := rfl

theorem setReg_B_eq (s : State) (v : Byte) : s.setReg .B v = { s with b := v } := rfl

theorem setReg_C_eq (s : State) (v : Byte) : s.setReg .C v = { s with c := v } := rfl

theorem setReg_D_eq (s : State) (v : Byte) : s.setReg .D v = { s with d := v } := rfl

/-! ### A register read as a field -/

@[simp] theorem reg_A (s : State) : s.reg .A = s.a := rfl

@[simp] theorem reg_B (s : State) : s.reg .B = s.b := rfl

@[simp] theorem reg_C (s : State) : s.reg .C = s.c := rfl

@[simp] theorem reg_D (s : State) : s.reg .D = s.d := rfl

/-- Settles O25: each clause is the law of its operation. -/
theorem smallOperations : Obligations.SmallOperations :=
  ⟨sext16_toInt,
   ioAddress_toNat,
   fun w => ⟨lo8_toNat w, hi8_toNat w⟩,
   join16_toNat,
   fun s => ⟨ab_toNat s, cd_toNat s⟩,
   fun s v => ⟨setReg_A_eq s v, setReg_B_eq s v, setReg_C_eq s v, setReg_D_eq s v⟩,
   fun s => ⟨reg_A s, reg_B s, reg_C s, reg_D s⟩⟩

end Sys2Proof.Machine
end

section
/-! PROOF. Which instructions write F, IE, NOSAMPLE and PC, and the reset state (10_state.md sections 2, 3, 5, 6: O13,
O15, O16, O20). -/

namespace Sys2Proof.Machine

/-! ### The updates an instruction is made of -/

/-- What the instruction `i` may do to a state: named updates one after another, where F, PC and the interrupt bits are
written only if the tables of 10_state.md list `i` among their writers (R26, R32, R34, R35). -/
inductive Updates (i : Instr) (s : State) : State → Prop
  | refl : Updates i s s
  | setReg {t : State} {r : Reg} {v : Byte} : Updates i s t → Updates i s (t.setReg r v)
  | setSp {t : State} {v : Word} : Updates i s t → Updates i s (t.setSp v)
  | setDp {t : State} {v : Word} : Updates i s t → Updates i s (t.setDp v)
  | memRead {t : State} {ea : Word} : Updates i s t → Updates i s (t.memRead ea).2
  | memWrite {t : State} {ea : Word} {v : Byte} : Updates i s t → Updates i s (t.memWrite ea v)
  | setF {t : State} {v : Byte} : writesF i = true → Updates i s t → Updates i s (t.setF v)
  | setPc {t : State} {v : Word} : writesPc i = true → Updates i s t → Updates i s (t.setPc v)
  | setIe {t : State} {v : Bool} : writesIe i = true → Updates i s t → Updates i s (t.setIe v)
  | setNoSample {t : State} {v : Bool} : writesIe i = true → Updates i s t → Updates i s (t.setNoSample v)

namespace Updates

variable {i : Instr} {s t : State}

/-! ### What the updates keep -/

/-- Only a writer of F changes F. -/
theorem f_eq (h : Updates i s t) (hw : writesF i = false) : t.f = s.f := by
  induction h with
  | refl => rfl
  | setF w => simp [hw] at w
  | setReg _ ih | setSp _ ih | setDp _ ih | memRead _ ih | memWrite _ ih => simpa using ih
  | setPc _ _ ih | setIe _ _ ih | setNoSample _ _ ih => simpa using ih

/-- Only a writer of PC changes PC. -/
theorem pc_eq (h : Updates i s t) (hw : writesPc i = false) : t.pc = s.pc := by
  induction h with
  | refl => rfl
  | setPc w => simp [hw] at w
  | setReg _ ih | setSp _ ih | setDp _ ih | memRead _ ih | memWrite _ ih => simpa using ih
  | setF _ _ ih | setIe _ _ ih | setNoSample _ _ ih => simpa using ih

/-- Only a writer of IE changes IE or NOSAMPLE. -/
theorem interruptBits_eq (h : Updates i s t) (hw : writesIe i = false) : t.ie = s.ie ∧ t.noSample = s.noSample := by
  induction h with
  | refl => exact ⟨rfl, rfl⟩
  | setIe w | setNoSample w => simp [hw] at w
  | setReg _ ih | setSp _ ih | setDp _ ih | memRead _ ih | memWrite _ ih => simpa using ih
  | setF _ _ ih | setPc _ _ ih => simpa using ih

/-! ### The shared operations are such updates -/

theorem setAB {v : Word} (h : Updates i s t) : Updates i s (t.setAB v) := h.setReg.setReg

theorem setCD {v : Word} (h : Updates i s t) : Updates i s (t.setCD v) := h.setReg.setReg

theorem setABC {p : BitVec 24} (h : Updates i s t) : Updates i s (setABC p t) := h.setReg.setReg.setReg

theorem stepDp {k : Word} (h : Updates i s t) : Updates i s (stepDp k t) := h.setDp

theorem stepSp {k : Word} (h : Updates i s t) : Updates i s (stepSp k t) := h.setSp

theorem readThen {ea : Word} {k : Byte → State → State} (h : Updates i s t)
    (hk : ∀ v u, Updates i s u → Updates i s (k v u)) : Updates i s (t.readThen ea k) := hk _ _ h.memRead

theorem read16Then {ea : Word} {k : Word → State → State} (h : Updates i s t)
    (hk : ∀ v u, Updates i s u → Updates i s (k v u)) : Updates i s (t.read16Then ea k) :=
  h.readThen fun _ _ hu => hu.readThen fun _ _ hu' => hk _ _ hu'

theorem memWrite16 {ea v : Word} (h : Updates i s t) : Updates i s (t.memWrite16 ea v) := h.memWrite.memWrite

theorem loadFrom {r : Reg} {ea : Word} (h : Updates i s t) : Updates i s (loadFrom r ea t) :=
  h.readThen fun _ _ hu => hu.setReg

theorem copyByte {source destination : Word} (h : Updates i s t) : Updates i s (copyByte source destination t) :=
  h.readThen fun _ _ hu => hu.memWrite

theorem push8 {v : Byte} (h : Updates i s t) : Updates i s (t.push8 v) := h.setSp.memWrite

theorem push16 {v : Word} (h : Updates i s t) : Updates i s (t.push16 v) := h.push8.push8

theorem pushAll (h : Updates i s t) : Updates i s (pushAll t) := h.push16.push16.push8.push8.push8

theorem popThen {k : Byte → State → State} (h : Updates i s t) (hk : ∀ v u, Updates i s u → Updates i s (k v u)) :
    Updates i s (t.popThen k) :=
  h.readThen fun _ _ hu => hk _ _ hu.setSp

theorem pop16Then {k : Word → State → State} (h : Updates i s t) (hk : ∀ v u, Updates i s u → Updates i s (k v u)) :
    Updates i s (t.pop16Then k) :=
  h.popThen fun _ _ hu => hu.popThen fun _ _ hu' => hk _ _ hu'

theorem popAll (w : writesF i = true) (h : Updates i s t) : Updates i s (popAll t) :=
  h.popThen fun _ _ h0 => h0.popThen fun _ _ h1 => h1.popThen fun _ _ h2 => h2.pop16Then fun _ _ h3 =>
    h3.pop16Then fun _ _ h4 => (setF w h4.setReg.setReg).setCD.setDp

theorem aluReg {op : AluOp} {r : Reg} {x : Byte} {cin : Bool} (w : writesF i = true) (h : Updates i s t) :
    Updates i s (aluReg op r x cin t) := setF w h.setReg

theorem aluRegMem {op : AluOp} {r : Reg} {ea : Word} {cin : Bool} (w : writesF i = true) (h : Updates i s t) :
    Updates i s (aluRegMem op r ea cin t) := h.readThen fun _ _ hu => aluReg w hu

theorem aluPair {op : AluOp} {lo hi : Byte} (w : writesF i = true) (h : Updates i s t) :
    Updates i s (aluPair op lo hi t) := setF w h.setReg.setReg

theorem updateMem {ea : Word} {k : Byte → Byte × Byte} (w : writesF i = true) (h : Updates i s t) :
    Updates i s (updateMem ea k t) := h.readThen fun _ _ hu => setF w hu.memWrite

theorem jumpIf {condition : Bool} {target : Word} (w : writesPc i = true) (h : Updates i s t) :
    Updates i s (jumpIf condition target t) := by
  cases condition
  · exact h
  · exact setPc w h

theorem callTo {target : Word} (w : writesPc i = true) (h : Updates i s t) : Updates i s (callTo target t) :=
  setPc w h.push16

theorem returnOp (w : writesPc i = true) (h : Updates i s t) : Updates i s (returnOp t) :=
  h.pop16Then fun _ _ hu => setPc w hu

theorem returnFromInterrupt (wp : writesPc i = true) (wi : writesIe i = true) (h : Updates i s t) :
    Updates i s (returnFromInterrupt t) := setNoSample wi (setIe wi (returnOp wp h))

/-- The reset sequence as named updates (70_reset_and_hazards.md R480). -/
theorem resetOp_eq_setters (s : State) :
    Machine.resetOp s = (((((((((s.setReg .A 0).setReg .B 0).setReg .C 0).setReg .D 0).setSp 0xFFFF).setDp 0x8080).setF
      0x24).setPc 0).setIe false).setNoSample false := rfl

theorem resetOp (wf : writesF i = true) (wp : writesPc i = true) (wi : writesIe i = true) (h : Updates i s t) :
    Updates i s (resetOp t) := by
  rw [resetOp_eq_setters]
  exact setNoSample wi (setIe wi (setPc wp (setF wf h.setReg.setReg.setReg.setReg.setSp.setDp)))

end Updates

/-! ### Every instruction -/

/-- Every instruction answers a next state, reached by the updates it may do: one case per shape of
instruction. -/
theorem exec_updates (i : Instr) (s : State) : ∃ t, exec i s = .next t ∧ Updates i s t := by
  cases i with
  -- loads, exchanges, single transfers
  | nop => exact ⟨_, rfl, .refl⟩
  | ldA_B | ldA_C | ldA_D | ldB_A | ldB_C | ldB_D | ldC_A | ldC_B | ldC_D | ldD_A | ldD_B | ldD_C | ldA_n | ldB_n
  | ldC_n | ldD_n | clrA => exact ⟨_, rfl, .setReg .refl⟩
  | ldA_atDP | ldB_atDP | ldC_atDP | ldD_atDP | ldA_atDPd | ldB_atDPd | ldC_atDPd | ldD_atDPd | ldA_atDPDd
  | ldA_atSPDd | ldA_atSPd | ldB_atSPd | ldC_atSPd | ldD_atSPd | ldA_atNN | ldB_atNN | ldC_atNN | ldD_atNN | ldA_atCD
  | inA_atS | inB_atS | inC_atS | inD_atS => exact ⟨_, rfl, .loadFrom .refl⟩
  | ldAtDP_A | ldAtDP_B | ldAtDP_C | ldAtDP_D | ldAtDPd_A | ldAtDPd_B | ldAtDPd_C | ldAtDPd_D | ldAtDPDd_A | ldAtSPDd_A
  | ldAtSPd_A | ldAtSPd_B | ldAtSPd_C | ldAtSPd_D | ldAtNN_A | ldAtNN_B | ldAtNN_C | ldAtNN_D | ldAtNN_n | ldAtCD_A
  | outAtS_A | outAtS_B | outAtS_C | outAtS_D | outAtS_n => exact ⟨_, rfl, .memWrite .refl⟩
  | ldAtDD_atSS | outAtS_atDP | inAtDP_atS => exact ⟨_, rfl, .copyByte .refl⟩
  | ldCD_atDP => exact ⟨_, rfl, .read16Then .refl fun _ _ hu => .setCD hu⟩
  | ldAtDP_CD | mulAtDP_AB | divAtDP_AB | extAtDP_A => exact ⟨_, rfl, .memWrite16 .refl⟩
  | ldDP_AB | ldDP_nn | ldDP_SPd | ldDP_CDd => exact ⟨_, rfl, .setDp .refl⟩
  | ldSP_nn => exact ⟨_, rfl, .setSp .refl⟩
  | ldCD_SP => exact ⟨_, rfl, .setCD .refl⟩
  | exAB_CD => exact ⟨_, rfl, .setCD (.setAB .refl)⟩
  | exCD_DP => exact ⟨_, rfl, .setDp (.setCD .refl)⟩
  | exDP_atNN => exact ⟨_, rfl, .read16Then .refl fun _ _ hu => .setDp (.memWrite16 hu)⟩
  -- the stack
  | pushA | pushB | pushF | push_n => exact ⟨_, rfl, .push8 .refl⟩
  | pushCD | pushDP => exact ⟨_, rfl, .push16 .refl⟩
  | pushALL => exact ⟨_, rfl, .pushAll .refl⟩
  | pushAtNN => exact ⟨_, rfl, .readThen .refl fun _ _ hu => .push8 hu⟩
  | popA | popB => exact ⟨_, rfl, .popThen .refl fun _ _ hu => .setReg hu⟩
  | popF => exact ⟨_, rfl, .popThen .refl fun _ _ hu => .setF rfl hu⟩
  | popCD => exact ⟨_, rfl, .pop16Then .refl fun _ _ hu => .setCD hu⟩
  | popDP => exact ⟨_, rfl, .pop16Then .refl fun _ _ hu => .setDp hu⟩
  | popALL => exact ⟨_, rfl, .popAll rfl .refl⟩
  | popAtNN => exact ⟨_, rfl, .stepSp (.copyByte .refl)⟩
  -- the 8-bit ALU, and the CD forms
  | addA_B | addA_C | addA_D | addA_n | addB_n | addC_n | addD_n | addcA_A | addcA_B | addcA_C | addcA_D | addcA_n
  | addcB_n | addcC_n | addcD_n | subA_B | subA_C | subA_D | subA_n | subB_n | subC_n | subD_n | subbA_B | subbA_C
  | subbA_D | subbA_n | subbB_n | subbC_n | subbD_n | incA | decA | cplA | andA_B | andA_C | andA_D | andA_n | andB_n
  | andC_n | andD_n | orA_B | orA_C | orA_D | orA_n | orB_n | orC_n | orD_n | xorA_B | xorA_C | xorA_D | xorA_n
  | xorB_n | xorC_n | xorD_n => exact ⟨_, rfl, .aluReg rfl .refl⟩
  | addA_atDP | addcA_atDP | subA_atDP | subbA_atDP | andA_atDP | orA_atDP | xorA_atDP =>
    exact ⟨_, rfl, .aluRegMem rfl .refl⟩
  | addAtDP_A | addcAtDP_A | subAtDP_A | subbAtDP_A | addAtDP_n | addcAtDP_n | subAtDP_n | subbAtDP_n | incAtDP
  | decAtDP | incAtNN | decAtNN | andAtDP_A | andAtDP_n | orAtDP_A | orAtDP_n | xorAtDP_A | xorAtDP_n | incioAtS
  | decioAtS | andioAtS_A | andioAtS_n | orioAtS_A | orioAtS_n | xorioAtS_A | xorioAtS_n =>
    exact ⟨_, rfl, .updateMem rfl .refl⟩
  | cpA_B | cpA_C | cpA_D | cpA_n | cpB_n | cpC_n | cpD_n | testA_n => exact ⟨_, rfl, .setF rfl .refl⟩
  | cpA_atDP | cpAtDP_n => exact ⟨_, rfl, .readThen .refl fun _ _ hu => .setF rfl hu⟩
  | addCD_AB | subCD_AB | addCD_nn | subCD_nn => exact ⟨_, rfl, .aluPair rfl .refl⟩
  -- multiply, divide, EXT
  | mulAB | mulA_n | extA | extdirA_oper => exact ⟨_, rfl, .setAB .refl⟩
  | mulCD_AB | extCD_A => exact ⟨_, rfl, .setCD .refl⟩
  | mul16AB_C => exact ⟨_, rfl, .setABC .refl⟩
  | divA_B | divA_n | divCD_AB => exact ⟨_, rfl, .setReg (.setReg .refl)⟩
  | divnrA_B | extdirlA_oper => exact ⟨_, rfl, .setReg .refl⟩
  -- steps of DP and SP, block transfers
  | incDP | decDP | addDP_A | addDP_d => exact ⟨_, rfl, .stepDp .refl⟩
  | addSP_A | addSP_d => exact ⟨_, rfl, .stepSp .refl⟩
  | outiAtS_atDP | outdAtS_atDP | iniAtDP_atS | indAtDP_atS => exact ⟨_, rfl, .stepDp (.copyByte .refl)⟩
  -- control transfer, the interrupt enable, reset
  | jp_nn | jpDPd | jr_d => exact ⟨_, rfl, .setPc rfl .refl⟩
  | jpC_nn | jpOV_nn | jpZ_nn | jpNEG_nn | jpPOS_nn | jpEQ_nn | jpLT_nn | jpGT_nn | jrC_d | jrOV_d | jrZ_d | jrNEG_d
  | jrPOS_d | jrEQ_d | jrLT_d | jrGT_d | jrNC_d | jrNOV_d | jrNZ_d | jrNNEG_d | jrNPOS_d | jrNEQ_d | jrNLT_d | jrNGT_d =>
    exact ⟨_, rfl, .jumpIf rfl .refl⟩
  | djnz_d => exact ⟨_, rfl, .jumpIf rfl (.setReg .refl)⟩
  | call_nn | callr_d | callDPd => exact ⟨_, rfl, .callTo rfl .refl⟩
  | ret => exact ⟨_, rfl, .returnOp rfl .refl⟩
  | reti => exact ⟨_, rfl, .returnFromInterrupt rfl rfl .refl⟩
  | di | ei => exact ⟨_, rfl, .setIe rfl .refl⟩
  | reset => exact ⟨_, rfl, .resetOp rfl rfl rfl .refl⟩

/-- A next state that an instruction answers is reached by the updates it may do. -/
theorem updates_of_exec {i : Instr} {s t : State} (h : exec i s = .next t) : Updates i s t := by
  obtain ⟨u, hu, hup⟩ := exec_updates i s
  obtain rfl : u = t := Host.Outcome.next.inj (hu.symm.trans h)
  exact hup

/-- Settles O13: F is written by `setF` alone, which only the listed writers do. -/
theorem flagWriters : Obligations.FlagWriters := fun _ _ _ h hw => (updates_of_exec h).f_eq hw

/-- Settles O15: IE and NOSAMPLE are written by `setIe` and `setNoSample` alone, which only the listed writers do. -/
theorem interruptEnableWriters : Obligations.InterruptEnableWriters :=
  fun _ _ _ h hw => (updates_of_exec h).interruptBits_eq hw

/-- Settles O16: PC is written by `setPc` alone, which only the listed writers do. -/
theorem programCounterWriters : Obligations.ProgramCounterWriters := fun _ _ _ h hw => (updates_of_exec h).pc_eq hw

/-! ### The reset state -/

/-- The flag byte 0x24 of reset holds exactly Z and EQ (10_state.md R41). -/
theorem reset_flag_iff (x : Flag) : State.reset.flag x = true ↔ x = .Z ∨ x = .EQ := by
  cases x <;> decide

/-- Settles O20: the register values are fields of `State.reset`; the flags are read off its F. -/
theorem resetState : Obligations.ResetState :=
  ⟨rfl, rfl, rfl, rfl, rfl, reset_flag_iff, rfl, rfl, rfl, rfl, rfl⟩

end Sys2Proof.Machine
end

section
/-! PROOF. Memory and the environment: the page-confined add, what every step keeps of memory and of the environment,
and the pages of SP and DP (20_memory.md sections 1, 2: O8, O9, O10, O12, O24). -/

namespace Sys2Proof.Machine

/-! ### The page-confined add -/

theorem padd_toNat_div (r k : Word) : (padd r k).toNat / 16384 = r.toNat / 16384 := by
  rw [padd_toNat]
  omega

theorem padd_toNat_mod (r k : Word) : (padd r k).toNat % 16384 = (r.toNat + k.toNat) % 16384 := by
  rw [padd_toNat]
  omega

/-- Settles O24: the formula is the definition, the two halves are read off `padd` in integers. -/
theorem pageConfinedAdd : Obligations.PageConfinedAdd :=
  ⟨fun r k => ⟨rfl, padd_toNat_div r k, padd_toNat_mod r k⟩, by decide, by decide, by decide⟩

/-! ### What goes on from state to state -/

/-- `t` goes on from `s` on the same platform: the memory map and what the environment still presents are those of `s`,
the record of `s` is the older part of the record of `t`, and a canonical memory stays canonical. -/
structure GoesOn (s t : State) : Prop where
  memMap_eq : t.memMap = s.memMap
  inputs_eq : t.inputs = s.inputs
  busLog_suffix : s.busLog <:+ t.busLog
  mem_wf : s.mem.wf = true → t.mem.wf = true

namespace GoesOn

variable {s t u : State}

theorem refl (s : State) : GoesOn s s := ⟨rfl, rfl, List.suffix_refl _, id⟩

theorem trans (h : GoesOn s t) (k : GoesOn t u) : GoesOn s u :=
  ⟨k.memMap_eq.trans h.memMap_eq, k.inputs_eq.trans h.inputs_eq, h.busLog_suffix.trans k.busLog_suffix,
   fun w => k.mem_wf (h.mem_wf w)⟩

/-! ### Every update of the state goes on -/

/-- An update of registers, hidden bits and the cycle counter goes on. -/
theorem of_eq (h : GoesOn s t) (hmap : u.memMap = t.memMap) (hin : u.inputs = t.inputs) (hlog : u.busLog = t.busLog)
    (hmem : u.mem = t.mem) : GoesOn s u :=
  h.trans ⟨hmap, hin, hlog ▸ List.suffix_refl _, hmem ▸ id⟩

theorem setReg {r : Reg} {v : Byte} (h : GoesOn s t) : GoesOn s (t.setReg r v) :=
  h.of_eq (setReg_memMap t r v) (setReg_inputs t r v) (setReg_busLog t r v) (setReg_mem t r v)

theorem setF {v : Byte} (h : GoesOn s t) : GoesOn s (t.setF v) := h.of_eq rfl rfl rfl rfl

theorem setPc {v : Word} (h : GoesOn s t) : GoesOn s (t.setPc v) := h.of_eq rfl rfl rfl rfl

theorem setSp {v : Word} (h : GoesOn s t) : GoesOn s (t.setSp v) := h.of_eq rfl rfl rfl rfl

theorem setDp {v : Word} (h : GoesOn s t) : GoesOn s (t.setDp v) := h.of_eq rfl rfl rfl rfl

theorem setIe {v : Bool} (h : GoesOn s t) : GoesOn s (t.setIe v) := h.of_eq rfl rfl rfl rfl

theorem setNoSample {v : Bool} (h : GoesOn s t) : GoesOn s (t.setNoSample v) := h.of_eq rfl rfl rfl rfl

theorem addCycles {k : Nat} (h : GoesOn s t) : GoesOn s (t.addCycles k) := h.of_eq rfl rfl rfl rfl

theorem resetOp (h : GoesOn s t) : GoesOn s (resetOp t) := h.of_eq rfl rfl rfl rfl

theorem memRead {ea : Word} (h : GoesOn s t) : GoesOn s (t.memRead ea).2 := by
  obtain ⟨added, hadd⟩ := memRead_busLog t ea
  exact h.trans ⟨memRead_memMap t ea, memRead_inputs t ea, ⟨added, hadd.symm⟩, by rw [memRead_mem]; exact id⟩

theorem memWrite {ea : Word} {v : Byte} (h : GoesOn s t) : GoesOn s (t.memWrite ea v) := by
  obtain ⟨added, hadd⟩ := memWrite_busLog t ea v
  exact h.trans ⟨memWrite_memMap t ea v, memWrite_inputs t ea v, ⟨added, hadd.symm⟩, memWrite_wf t ea v⟩

/-! ### Every part of a step goes on -/

theorem fetchBytes (k : Nat) (h : GoesOn s t) : GoesOn s (fetchBytes k t).2 := by
  induction k generalizing t with
  | zero => exact h
  | succ k ih => exact ih h.memRead.setPc

theorem push16 {v : Word} (h : GoesOn s t) : GoesOn s (t.push16 v) := h.setSp.memWrite.setSp.memWrite

theorem interruptResponse {p : Byte} (h : GoesOn s t) : GoesOn s (interruptResponse p t) :=
  h.push16.memRead.memRead.setPc.setIe

/-- What an instruction is made of goes on. -/
theorem of_updates {i : Instr} (h : Updates i s t) : GoesOn s t := by
  induction h with
  | refl => exact .refl s
  | setReg _ ih => exact ih.setReg
  | setSp _ ih => exact ih.setSp
  | setDp _ ih => exact ih.setDp
  | memRead _ ih => exact ih.memRead
  | memWrite _ ih => exact ih.memWrite
  | setF _ _ ih => exact ih.setF
  | setPc _ _ ih => exact ih.setPc
  | setIe _ _ ih => exact ih.setIe
  | setNoSample _ _ ih => exact ih.setNoSample

end GoesOn

/-- Running the instruction at PC: the fetched bytes are some instruction, which is executed after the fetch, and its
clocks are counted. -/
theorem runInstruction_cases {s t : State} (h : runInstruction s = .next t) :
    ∃ i u, exec i (fetchInstr s).2 = .next u ∧ t = u.addCycles (clocks i) := by
  obtain ⟨i, rest, hdecode⟩ := decode_fetchInstr s
  obtain ⟨u, hu, -⟩ := exec_updates i (fetchInstr s).2
  simp only [runInstruction, hdecode, hu, mapNext, Host.Outcome.next.injEq] at h
  exact ⟨i, u, hu, h.symm⟩

theorem runInstruction_goesOn {s t : State} (h : runInstruction s = .next t) : GoesOn s t := by
  obtain ⟨i, u, hu, rfl⟩ := runInstruction_cases h
  have hfetch : GoesOn s (fetchInstr s).2 := fetchInstr_state s ▸ (GoesOn.refl s).fetchBytes _
  exact (hfetch.trans (.of_updates (updates_of_exec hu))).addCycles

/-- A step consumes the environment's entry at the boundary; whatever it does then goes on from there. -/
theorem step_goesOn {s t : State} (h : step s = .next t) : GoesOn s.dropInput t := by
  obtain hrun | ⟨p, hint⟩ | hreset := boundary_cases s
  · rw [step_execute hrun] at h
    have hboundary : GoesOn s.dropInput (afterBoundary s) := (GoesOn.refl s.dropInput).setNoSample
    exact hboundary.trans (runInstruction_goesOn h)
  · obtain rfl := Host.Outcome.next.inj ((step_interrupt hint).symm.trans h)
    exact (GoesOn.refl _).interruptResponse.addCycles
  · obtain rfl := Host.Outcome.next.inj ((step_reset hreset).symm.trans h)
    exact (GoesOn.refl _).resetOp.addCycles

/-- Settles O8: memory changes by single writes only, and each keeps the canonical form. -/
theorem memoryFormKept : Obligations.MemoryFormKept := fun _ _ hwf h => (step_goesOn h).mem_wf hwf

/-- Settles O9: the reset state lists no bytes. -/
theorem memoryFormAtReset : Obligations.MemoryFormAtReset := rfl

/-- Settles O10: after the boundary has dropped one entry, a step goes on. -/
theorem environmentKept : Obligations.EnvironmentKept := fun _ _ h =>
  have ⟨hmap, hinputs, ⟨added, hlog⟩, _⟩ := step_goesOn h
  ⟨hmap, hinputs, added, hlog.symm⟩

/-! ### What the shared operations do to SP and DP -/

section
variable (s : State)

@[simp] theorem setABC_sp (p : BitVec 24) : (setABC p s).sp = s.sp := rfl
@[simp] theorem setABC_dp (p : BitVec 24) : (setABC p s).dp = s.dp := rfl

@[simp] theorem loadFrom_sp (r : Reg) (ea : Word) : (loadFrom r ea s).sp = s.sp := by simp [loadFrom, readThen_eq]
@[simp] theorem loadFrom_dp (r : Reg) (ea : Word) : (loadFrom r ea s).dp = s.dp := by simp [loadFrom, readThen_eq]

@[simp] theorem copyByte_sp (x y : Word) : (copyByte x y s).sp = s.sp := by simp [copyByte, readThen_eq]
@[simp] theorem copyByte_dp (x y : Word) : (copyByte x y s).dp = s.dp := by simp [copyByte, readThen_eq]

@[simp] theorem memWrite16_sp (ea v : Word) : (s.memWrite16 ea v).sp = s.sp := by simp [State.memWrite16]
@[simp] theorem memWrite16_dp (ea v : Word) : (s.memWrite16 ea v).dp = s.dp := by simp [State.memWrite16]

/-- A two-byte read as two reads. -/
theorem read16Then_eq (ea : Word) (k : Word → State → State) :
    s.read16Then ea k = k (join16 ((s.memRead ea).2.memRead (nextAddress ea)).1 (s.memRead ea).1)
      ((s.memRead ea).2.memRead (nextAddress ea)).2 := rfl

@[simp] theorem stepSp_sp (k : Word) : (stepSp k s).sp = padd s.sp k := rfl
@[simp] theorem stepSp_dp (k : Word) : (stepSp k s).dp = s.dp := rfl

@[simp] theorem stepDp_sp (k : Word) : (stepDp k s).sp = s.sp := rfl
@[simp] theorem stepDp_dp (k : Word) : (stepDp k s).dp = padd s.dp k := rfl

@[simp] theorem push8_sp (v : Byte) : (s.push8 v).sp = padd s.sp 0xFFFF := by simp [State.push8]
@[simp] theorem push8_dp (v : Byte) : (s.push8 v).dp = s.dp := by simp [State.push8]

@[simp] theorem push16_sp (v : Word) : (s.push16 v).sp = padd s.sp 0xFFFE := by simp [State.push16, padd_padd]
@[simp] theorem push16_dp (v : Word) : (s.push16 v).dp = s.dp := by simp [State.push16]

@[simp] theorem pushAll_sp : (pushAll s).sp = padd s.sp 0xFFF9 := by simp [pushAll, padd_padd]
@[simp] theorem pushAll_dp : (pushAll s).dp = s.dp := by simp [pushAll]

/-- A pop as a read at SP and a step of SP. -/
theorem popThen_eq (k : Byte → State → State) :
    s.popThen k = k (s.memRead s.sp).1 ((s.memRead s.sp).2.setSp (padd s.sp 1)) := by
  simp [State.popThen, readThen_eq]

/-- A 16-bit pop as two pops. -/
theorem pop16Then_eq (k : Word → State → State) :
    s.pop16Then k = s.popThen fun lo t => t.popThen fun hi u => k (join16 hi lo) u := rfl

@[simp] theorem popAll_sp : (popAll s).sp = padd s.sp 7 := by simp [popAll, popThen_eq, pop16Then_eq, padd_padd]

@[simp] theorem aluReg_sp (op : AluOp) (r : Reg) (x : Byte) (cin : Bool) : (aluReg op r x cin s).sp = s.sp := by
  simp [aluReg]
@[simp] theorem aluReg_dp (op : AluOp) (r : Reg) (x : Byte) (cin : Bool) : (aluReg op r x cin s).dp = s.dp := by
  simp [aluReg]

@[simp] theorem aluRegMem_sp (op : AluOp) (r : Reg) (ea : Word) (cin : Bool) : (aluRegMem op r ea cin s).sp = s.sp := by
  simp [aluRegMem, readThen_eq]
@[simp] theorem aluRegMem_dp (op : AluOp) (r : Reg) (ea : Word) (cin : Bool) : (aluRegMem op r ea cin s).dp = s.dp := by
  simp [aluRegMem, readThen_eq]

@[simp] theorem aluPair_sp (op : AluOp) (lo hi : Byte) : (aluPair op lo hi s).sp = s.sp := rfl
@[simp] theorem aluPair_dp (op : AluOp) (lo hi : Byte) : (aluPair op lo hi s).dp = s.dp := rfl

@[simp] theorem updateMem_sp (ea : Word) (k : Byte → Byte × Byte) : (updateMem ea k s).sp = s.sp := by
  simp [updateMem, readThen_eq]
@[simp] theorem updateMem_dp (ea : Word) (k : Byte → Byte × Byte) : (updateMem ea k s).dp = s.dp := by
  simp [updateMem, readThen_eq]

@[simp] theorem jumpIf_sp (c : Bool) (x : Word) : (jumpIf c x s).sp = s.sp := by cases c <;> rfl
@[simp] theorem jumpIf_dp (c : Bool) (x : Word) : (jumpIf c x s).dp = s.dp := by cases c <;> rfl

@[simp] theorem callTo_sp (x : Word) : (callTo x s).sp = padd s.sp 0xFFFE := by simp [callTo]
@[simp] theorem callTo_dp (x : Word) : (callTo x s).dp = s.dp := by simp [callTo]

@[simp] theorem returnOp_sp : (returnOp s).sp = padd s.sp 2 := by
  simp [returnOp, pop16Then_eq, popThen_eq, padd_padd]
@[simp] theorem returnOp_dp : (returnOp s).dp = s.dp := by simp [returnOp, pop16Then_eq, popThen_eq]

@[simp] theorem returnFromInterrupt_sp : (returnFromInterrupt s).sp = padd s.sp 2 := by simp [returnFromInterrupt]
@[simp] theorem returnFromInterrupt_dp : (returnFromInterrupt s).dp = s.dp := by simp [returnFromInterrupt]

end

/-! ### The pages of SP and DP -/

/-- From `s` to `t`, SP and DP stay in their pages unless `i` is one of the instructions that load them. -/
structure StaysInPages (i : Instr) (s t : State) : Prop where
  sp : loadsSp i = true ∨ pageOf t.sp = pageOf s.sp
  dp : loadsDp i = true ∨ pageOf t.dp = pageOf s.dp

/-- Every instruction stays in the pages: it loads SP or DP, or steps it by `padd`, or leaves it alone. -/
theorem exec_staysInPages (i : Instr) (s : State) : ∃ t, exec i s = .next t ∧ StaysInPages i s t := by
  cases i with
  -- a new value is loaded
  | reset => exact ⟨_, rfl, .inl rfl, .inl rfl⟩
  | ldSP_nn => exact ⟨_, rfl, .inl rfl, .inr rfl⟩
  | ldDP_AB | ldDP_nn | ldDP_SPd | ldDP_CDd | exCD_DP => exact ⟨_, rfl, .inr rfl, .inl rfl⟩
  | exDP_atNN => exact ⟨_, rfl, .inr (by simp [read16Then_eq]), .inl rfl⟩
  | popDP => exact ⟨_, rfl, .inr (by simp [pop16Then_eq, popThen_eq]), .inl rfl⟩
  | popALL => exact ⟨_, rfl, .inr (by simp), .inl rfl⟩
  -- SP steps
  | pushA | pushB | pushF | push_n | pushCD | pushDP | pushALL | popAtNN | addSP_A | addSP_d | call_nn | callr_d
  | callDPd | ret | reti => exact ⟨_, rfl, .inr (by simp), .inr (by simp)⟩
  | pushAtNN => exact ⟨_, rfl, .inr (by simp [readThen_eq]), .inr (by simp [readThen_eq])⟩
  | popA | popB | popF => exact ⟨_, rfl, .inr (by simp [popThen_eq]), .inr (by simp [popThen_eq])⟩
  | popCD =>
    exact ⟨_, rfl, .inr (by simp [pop16Then_eq, popThen_eq]), .inr (by simp [pop16Then_eq, popThen_eq])⟩
  -- DP steps
  | incDP | decDP | addDP_A | addDP_d | outiAtS_atDP | outdAtS_atDP | iniAtDP_atS | indAtDP_atS =>
    exact ⟨_, rfl, .inr (by simp), .inr (by simp)⟩
  -- one read before F or a register pair is written
  | cpA_atDP | cpAtDP_n => exact ⟨_, rfl, .inr (by simp [readThen_eq]), .inr (by simp [readThen_eq])⟩
  | ldCD_atDP => exact ⟨_, rfl, .inr (by simp [read16Then_eq]), .inr (by simp [read16Then_eq])⟩
  -- both are left alone
  | _ => exact ⟨_, rfl, .inr (by simp), .inr (by simp)⟩

/-- Settles O12: an instruction that is not listed steps SP and DP by `padd` or leaves them alone. -/
theorem pagesKept : Obligations.PagesKept := by
  intro i s t h
  obtain ⟨u, hu, hsp, hdp⟩ := exec_staysInPages i s
  obtain rfl := Host.Outcome.next.inj (hu.symm.trans h)
  exact ⟨fun hl => hsp.resolve_left (by simp [hl]), fun hl => hdp.resolve_left (by simp [hl])⟩

end Sys2Proof.Machine
end

section
/-! PROOF. The decoder and the encoder undo each other, and every opcode decodes (30_encoding.md R70 to R82: O1, O2,
O3). -/

namespace Sys2Proof

open Sys2Proof.Machine

/-! ### What a row of the opcode table makes of its operand bytes -/

/-- The row makes the instruction of exactly these operand bytes, two-byte operands low byte first (30_encoding.md R72,
R74). -/
inductive Row.Makes : Row → List Byte → Instr → Prop
  | f0 {i : Instr} : (Row.f0 i).Makes [] i
  | fn {k : Byte → Instr} {n : Byte} : (Row.fn k).Makes [n] (k n)
  | fd {k : Byte → Instr} {d : Byte} : (Row.fd k).Makes [d] (k d)
  | fs {k : Byte → Instr} {s : Byte} : (Row.fs k).Makes [s] (k s)
  | foper {k : Byte → Instr} {oper : Byte} : (Row.foper k).Makes [oper] (k oper)
  | fnn {k : Word → Instr} {nn : Word} : (Row.fnn k).Makes [lo8 nn, hi8 nn] (k nn)
  | fn_s {k : Byte → Byte → Instr} {n s : Byte} : (Row.fn_s k).Makes [n, s] (k n s)
  | fs_n {k : Byte → Byte → Instr} {s n : Byte} : (Row.fs_n k).Makes [s, n] (k s n)
  | fn_nn {k : Byte → Word → Instr} {n : Byte} {nn : Word} : (Row.fn_nn k).Makes [n, lo8 nn, hi8 nn] (k n nn)
  | fss_dd {k : Word → Word → Instr} {ss dd : Word} :
      (Row.fss_dd k).Makes [lo8 ss, hi8 ss, lo8 dd, hi8 dd] (k ss dd)

/-- A row makes instructions of the length of its format. -/
theorem Row.Makes.length_eq {row : Row} {ops : List Byte} {i : Instr} (m : row.Makes ops i) :
    ops.length + 1 = row.format.length := by
  cases m <;> rfl

/-- Any two bytes, low byte first, are those of one word. -/
theorem Row.Makes.fnn_join16 {k : Word → Instr} {lo hi : Byte} :
    (Row.fnn k).Makes [lo, hi] (k (join16 hi lo)) := by
  simpa using Makes.fnn (k := k) (nn := join16 hi lo)

theorem Row.Makes.fn_nn_join16 {k : Byte → Word → Instr} {n lo hi : Byte} :
    (Row.fn_nn k).Makes [n, lo, hi] (k n (join16 hi lo)) := by
  simpa using Makes.fn_nn (k := k) (n := n) (nn := join16 hi lo)

theorem Row.Makes.fss_dd_join16 {k : Word → Word → Instr} {slo shi dlo dhi : Byte} :
    (Row.fss_dd k).Makes [slo, shi, dlo, dhi] (k (join16 shi slo) (join16 dhi dlo)) := by
  simpa using Makes.fss_dd (k := k) (ss := join16 shi slo) (dd := join16 dhi dlo)

/-- A row reads back what it makes, whatever bytes follow. -/
theorem Row.Makes.read_append {row : Row} {ops : List Byte} {i : Instr} (m : row.Makes ops i) (rest : List Byte) :
    row.read (ops ++ rest) = some (i, rest) := by
  cases m <;> simp [Row.read]

/-- What a row reads at the front of a byte string is made of the bytes it takes off. -/
theorem Row.makes_of_read {row : Row} {bytes rest : List Byte} {i : Instr} (h : row.read bytes = some (i, rest)) :
    ∃ ops, row.Makes ops i ∧ bytes = ops ++ rest := by
  unfold Row.read at h
  split at h <;> cases h
  · exact ⟨_, .f0, rfl⟩
  · exact ⟨_, .fn, rfl⟩
  · exact ⟨_, .fd, rfl⟩
  · exact ⟨_, .fs, rfl⟩
  · exact ⟨_, .foper, rfl⟩
  · exact ⟨_, .fnn_join16, rfl⟩
  · exact ⟨_, .fn_s, rfl⟩
  · exact ⟨_, .fs_n, rfl⟩
  · exact ⟨_, .fn_nn_join16, rfl⟩
  · exact ⟨_, .fss_dd_join16, rfl⟩

/-- A row has nothing to read exactly where bytes of its format are missing. -/
theorem Row.read_eq_none {row : Row} {bytes : List Byte} (h : bytes.length + 1 < row.format.length) :
    row.read bytes = none := by
  by_contra hsome
  obtain ⟨⟨i, rest⟩, hread⟩ := Option.ne_none_iff_exists'.mp hsome
  obtain ⟨ops, m, rfl⟩ := makes_of_read hread
  have := m.length_eq
  rw [List.length_append] at h
  omega

/-! ### The decoder in terms of the rows -/

theorem decode_cons {opcode : Byte} {row : Row} (hrow : rowOf opcode = some row) (bytes : List Byte) :
    decode (opcode :: bytes) = (row.read bytes).elim (.error (.truncated opcode)) .ok := by
  simp only [decode, hrow]
  cases row.read bytes <;> rfl

/-- The decoder answers an instruction exactly where the row of the first byte makes it of the bytes after that. -/
theorem decode_eq_ok_iff {bytes rest : List Byte} {i : Instr} :
    decode bytes = .ok (i, rest) ↔
      ∃ opcode row ops, rowOf opcode = some row ∧ row.Makes ops i ∧ bytes = opcode :: ops ++ rest := by
  constructor
  · intro h
    cases bytes with
    | nil => cases h
    | cons opcode bytes =>
      obtain ⟨row, hrow, -⟩ := Option.map_eq_some_iff.mp (rowOf_format opcode)
      rw [decode_cons hrow] at h
      cases hread : row.read bytes with
      | none => simp [hread] at h
      | some r =>
        obtain rfl : r = (i, rest) := by simpa [hread] using h
        obtain ⟨ops, m, rfl⟩ := Row.makes_of_read hread
        exact ⟨opcode, row, ops, hrow, m, rfl⟩
  · rintro ⟨opcode, row, ops, hrow, m, rfl⟩
    rw [List.cons_append, decode_cons hrow, m.read_append]
    rfl

/-! ### The encoder in terms of the rows -/

/-- Every instruction is made by the row of its first byte of the bytes after that. -/
theorem encode_made (i : Instr) :
    ∃ row ops, encode i = opcodeOf i :: ops ∧ rowOf (opcodeOf i) = some row ∧ row.Makes ops i := by
  cases i with
  | ldA_n | ldB_n | ldC_n | ldD_n | push_n | addA_n | addB_n | addC_n | addD_n | addcA_n | addcB_n | addcC_n
    | addcD_n | subA_n | subB_n | subC_n | subD_n | subbA_n | subbB_n | subbC_n | subbD_n | andA_n | andB_n
    | andC_n | andD_n | orA_n | orB_n | orC_n | orD_n | xorA_n | xorB_n | xorC_n | xorD_n | mulA_n | divA_n
    | cpA_n | cpB_n | cpC_n | cpD_n | cpAtDP_n | testA_n | addAtDP_n | addcAtDP_n | subAtDP_n | subbAtDP_n
    | andAtDP_n | orAtDP_n | xorAtDP_n =>
    exact ⟨_, _, rfl, rfl, .fn⟩
  | ldA_atDPd | ldB_atDPd | ldA_atDPDd | ldA_atSPDd | ldB_atSPd | ldC_atSPd | ldD_atSPd | ldAtDPd_A
    | ldAtDPd_B | ldAtDPDd_A | ldAtSPDd_A | ldAtSPd_B | ldAtSPd_C | ldAtSPd_D | ldDP_SPd | addDP_d | addSP_d
    | ldC_atDPd | ldD_atDPd | ldAtDPd_C | ldAtDPd_D | ldA_atSPd | ldAtSPd_A | ldDP_CDd | jpDPd | jr_d | jrC_d
    | jrOV_d | jrZ_d | jrNEG_d | jrPOS_d | jrEQ_d | jrLT_d | jrGT_d | jrNC_d | jrNOV_d | jrNZ_d | jrNNEG_d
    | jrNPOS_d | jrNEQ_d | jrNLT_d | jrNGT_d | djnz_d | callr_d | callDPd =>
    exact ⟨_, _, rfl, rfl, .fd⟩
  | ldA_atNN | ldB_atNN | ldC_atNN | ldD_atNN | ldAtNN_A | ldAtNN_B | ldAtNN_C | ldAtNN_D | ldDP_nn | ldSP_nn
    | exDP_atNN | pushAtNN | popAtNN | incAtNN | decAtNN | addCD_nn | subCD_nn | jp_nn | jpC_nn | jpOV_nn
    | jpZ_nn | jpNEG_nn | jpPOS_nn | jpEQ_nn | jpLT_nn | jpGT_nn | call_nn =>
    exact ⟨_, _, rfl, rfl, .fnn⟩
  | ldAtNN_n => exact ⟨_, _, rfl, rfl, .fn_nn⟩
  | ldAtDD_atSS => exact ⟨_, _, rfl, rfl, .fss_dd⟩
  | extdirA_oper | extdirlA_oper => exact ⟨_, _, rfl, rfl, .foper⟩
  | outAtS_A | outAtS_B | outAtS_C | outAtS_D | outAtS_atDP | outiAtS_atDP | outdAtS_atDP | inA_atS | inB_atS
    | inC_atS | inD_atS | inAtDP_atS | iniAtDP_atS | indAtDP_atS | incioAtS | decioAtS | andioAtS_A
    | orioAtS_A | xorioAtS_A =>
    exact ⟨_, _, rfl, rfl, .fs⟩
  | outAtS_n => exact ⟨_, _, rfl, rfl, .fn_s⟩
  | andioAtS_n | orioAtS_n | xorioAtS_n => exact ⟨_, _, rfl, rfl, .fs_n⟩
  | _ => exact ⟨_, _, rfl, rfl, .f0⟩

/-- The encoder writes `opcode` and the operands for every instruction that the row makes. -/
def Row.EncodesAs (opcode : Byte) (row : Row) : Prop :=
  ∀ ⦃ops : List Byte⦄ ⦃i : Instr⦄, row.Makes ops i → encode i = opcode :: ops

/-- The rows have consecutive opcodes in the encoder, from `n` on. -/
def EncodedFrom (n : Nat) (rows : List Row) : Prop :=
  ∀ p ∈ rows.zipIdx n, p.1.EncodesAs (BitVec.ofNat 8 p.2)

theorem encodedFrom_nil (n : Nat) : EncodedFrom n [] := by
  simp [EncodedFrom]

theorem encodedFrom_cons {n : Nat} {row : Row} {rows : List Row} :
    EncodedFrom n (row :: rows) ↔ row.EncodesAs (BitVec.ofNat 8 n) ∧ EncodedFrom (n + 1) rows := by
  simp [EncodedFrom]

theorem encodedFrom_append {n : Nat} {rows more : List Row} :
    EncodedFrom n (rows ++ more) ↔ EncodedFrom n rows ∧ EncodedFrom (n + rows.length) more := by
  simp only [EncodedFrom, List.zipIdx_append, List.forall_mem_append]

/-- The rows stand in the opcode table at the opcodes that the encoder writes. -/
theorem opcodeTable_encoded : EncodedFrom 0 opcodeTable := by
  simp only [opcodeTable, rows0, rows1, rows2, rows3, rows4, rows5, rows6, rows7, rows8, rows9, rowsA, rowsB, rowsC,
    rowsD, rowsE, rowsF, encodedFrom_append, encodedFrom_cons, encodedFrom_nil, and_true, List.length_append,
    List.length_cons, List.length_nil, Nat.reduceAdd]
  and_intros
  all_goals
    rintro _ _ ⟨⟩
    rfl

theorem rowOf_encodesAs {opcode : Byte} {row : Row} (hrow : rowOf opcode = some row) : row.EncodesAs opcode := by
  have hmem : (row, opcode.toNat) ∈ opcodeTable.zipIdx := List.mem_zipIdx_iff_getElem?.mpr hrow
  simpa using opcodeTable_encoded _ hmem

/-! ### The obligations -/

/-- Settles O1: the row of an instruction's first byte reads the instruction back from the bytes after it. -/
theorem decodeEncode : Obligations.DecodeEncode := by
  intro i rest
  obtain ⟨row, ops, henc, hrow, m⟩ := encode_made i
  exact decode_eq_ok_iff.mpr ⟨opcodeOf i, row, ops, hrow, m, by rw [henc]⟩

/-- Settles O2: an instruction that the decoder answers is made by a row, and the encoder writes that row's opcode
before the operands. -/
theorem encodeDecode : Obligations.EncodeDecode := by
  intro bytes rest i h
  obtain ⟨opcode, row, ops, hrow, m, rfl⟩ := decode_eq_ok_iff.mp h
  rw [rowOf_encodesAs hrow m]

/-- Settles O3: every opcode has a row, and a row reads an instruction exactly from bytes that are enough for its
format. -/
theorem decodeTotal : Obligations.DecodeTotal := by
  intro opcode operands
  obtain ⟨row, hrow, hformat⟩ := Option.map_eq_some_iff.mp (rowOf_format opcode)
  rw [← hformat]
  constructor
  · intro henough
    obtain ⟨i, rest, hread⟩ := row.read_isSome operands henough
    obtain ⟨ops, m, -⟩ := Row.makes_of_read hread
    have henc : encode i = opcode :: ops := rowOf_encodesAs hrow m
    refine ⟨i, rest, ?_, ?_, ?_⟩
    · rw [decode_cons hrow, hread]
      rfl
    · rw [opcodeOf, henc]
      rfl
    · rw [henc, List.length_cons, m.length_eq]
  · intro hshort
    rw [decode_cons hrow, Row.read_eq_none hshort]
    rfl

end Sys2Proof
end

section
/-! PROOF. The load and exchange instructions (40_load_exchange.md: O4, O26, O27, O28, O29, O30): each arm of `exec` is
one shared operation, and what the shape of that operation does is said once. -/

namespace Sys2Proof.Machine

/-! ### The register pairs as fields -/

theorem setCD_eq (s : State) (v : Word) : s.setCD v = { s with c := lo8 v, d := hi8 v } := rfl

/-- Writing the pair AB from its two bytes (00_scope.md R10). -/
theorem setAB_join16 (s : State) (hi lo : Byte) : s.setAB (join16 hi lo) = { s with a := lo, b := hi } := by
  simp only [State.setAB, lo8_join16, hi8_join16, setReg_A_eq, setReg_B_eq]

/-- Writing the pair CD from its two bytes (00_scope.md R10). -/
theorem setCD_join16 (s : State) (hi lo : Byte) : s.setCD (join16 hi lo) = { s with c := lo, d := hi } := by
  rw [setCD_eq, lo8_join16, hi8_join16]

/-! ### Reads as `ReadsByte` and `ReadsWord` leave DP alone -/

theorem ReadsByte.dp_eq {s t : State} {ea : Word} {v : Byte} (h : ReadsByte s ea v t) : t.dp = s.dp := by
  obtain ⟨-, rfl⟩ := (readsByte_iff s ea v t).mp h
  exact memRead_dp s ea

theorem ReadsWord.dp_eq {s t : State} {ea w : Word} (h : ReadsWord s ea w t) : t.dp = s.dp := by
  obtain ⟨_, _, _, hlo, hhi, -⟩ := h
  exact hhi.dp_eq.trans hlo.dp_eq

/-! ### What an instruction of each shape does -/

section
variable {i : Instr} {s : State} {ea : Word}

/-- The state that an instruction answers, written in another way. -/
theorem exec_eq_next {t u : State} (h : exec i s = .next t) (e : t = u) : exec i s = .next u := e ▸ h

theorem loads_of_exec {r : Reg} (h : exec i s = .next (loadFrom r ea s)) : Loads i r s ea :=
  ⟨_, _, memRead_reads s ea, h⟩

theorem stores_of_exec {v : Byte} (h : exec i s = .next (s.memWrite ea v)) : Stores i s ea v :=
  ⟨_, memWrite_writes s ea v, h⟩

theorem storesWord_of_exec {w : Word} (h : exec i s = .next (s.memWrite16 ea w)) : StoresWord i s ea w :=
  ⟨_, memWrite16_writes s ea w, h⟩

/-- A byte copied with DP set afterwards. -/
theorem copies_of_exec {source destination dp : Word}
    (h : exec i s = .next ((copyByte source destination s).setDp dp)) : Copies i s source destination dp :=
  ⟨_, _, _, memRead_reads s source, memWrite_writes _ destination _, h⟩

/-- A byte copied and DP left alone is the case in which DP is set to what it was. -/
theorem copies_of_exec_dp_kept {source destination : Word} (h : exec i s = .next (copyByte source destination s)) :
    Copies i s source destination s.dp := by
  have setDp_same : (copyByte source destination s).setDp s.dp = copyByte source destination s := by
    rw [← copyByte_dp s source destination]
    rfl
  exact copies_of_exec (exec_eq_next h setDp_same.symm)

end

/-! ### The obligations -/

/-- The bytes that the encoder writes for an instruction decode to it, with nothing left over. -/
theorem decode_of_encode {i : Instr} {bytes : List Byte} (h : encode i = bytes) : decode bytes = .ok (i, []) := by
  rw [← h, ← decodeEncode i [], List.append_nil]

/-- Settles O4: the bytes are what the encoder writes for each instruction, and decoding undoes encoding. -/
theorem sampleEncodings : Obligations.SampleEncodings :=
  ⟨decode_of_encode rfl, decode_of_encode rfl, decode_of_encode rfl, decode_of_encode rfl, decode_of_encode rfl,
   decode_of_encode rfl, decode_of_encode rfl, decode_of_encode rfl, decode_of_encode rfl, decode_of_encode rfl⟩

/-- Settles O26: each load is a register write, and a register write replaces one field. -/
theorem loadRegister : Obligations.LoadRegister := fun s n =>
  ⟨exec_eq_next rfl (setReg_A_eq s s.b), exec_eq_next rfl (setReg_A_eq s s.c), exec_eq_next rfl (setReg_A_eq s s.d),
   exec_eq_next rfl (setReg_B_eq s s.a), exec_eq_next rfl (setReg_B_eq s s.c), exec_eq_next rfl (setReg_B_eq s s.d),
   exec_eq_next rfl (setReg_C_eq s s.a), exec_eq_next rfl (setReg_C_eq s s.b), exec_eq_next rfl (setReg_C_eq s s.d),
   exec_eq_next rfl (setReg_D_eq s s.a), exec_eq_next rfl (setReg_D_eq s s.b), exec_eq_next rfl (setReg_D_eq s s.c),
   exec_eq_next rfl (setReg_A_eq s n), exec_eq_next rfl (setReg_B_eq s n), exec_eq_next rfl (setReg_C_eq s n),
   exec_eq_next rfl (setReg_D_eq s n)⟩

/-- Settles O27: each arm is `loadFrom` at the address of its operand form. -/
theorem loadFromMemory : Obligations.LoadFromMemory := fun _ _ _ =>
  ⟨-- (DP)
   loads_of_exec rfl, loads_of_exec rfl, loads_of_exec rfl, loads_of_exec rfl,
   -- (DP + d), (DP + D + d)
   loads_of_exec rfl, loads_of_exec rfl, loads_of_exec rfl,
   -- (SP + D + d), (SP + d)
   loads_of_exec rfl, loads_of_exec rfl, loads_of_exec rfl, loads_of_exec rfl,
   -- (nn)
   loads_of_exec rfl, loads_of_exec rfl, loads_of_exec rfl, loads_of_exec rfl,
   -- C and D from (DP + d), A from (SP + d) and (CD)
   loads_of_exec rfl, loads_of_exec rfl, loads_of_exec rfl, loads_of_exec rfl⟩

/-- Settles O28: each arm is `memWrite` at the address of its operand form. -/
theorem storeToMemory : Obligations.StoreToMemory := fun _ _ _ _ =>
  ⟨-- (DP)
   stores_of_exec rfl, stores_of_exec rfl, stores_of_exec rfl, stores_of_exec rfl,
   -- (DP + d), (DP + D + d)
   stores_of_exec rfl, stores_of_exec rfl, stores_of_exec rfl,
   -- (SP + D + d), (SP + d)
   stores_of_exec rfl, stores_of_exec rfl, stores_of_exec rfl, stores_of_exec rfl,
   -- (nn), with the immediate last
   stores_of_exec rfl, stores_of_exec rfl, stores_of_exec rfl, stores_of_exec rfl, stores_of_exec rfl,
   -- C and D to (DP + d), A to (SP + d) and (CD)
   stores_of_exec rfl, stores_of_exec rfl, stores_of_exec rfl, stores_of_exec rfl⟩

/-- `LD CD, (DP)`: the word read at DP, split over C and D (40_load_exchange.md R151). -/
theorem exec_ldCD_atDP (s : State) :
    ∃ w t, ReadsWord s s.dp w t ∧ exec .ldCD_atDP s = .next { t with c := lo8 w, d := hi8 w } := by
  obtain ⟨w, t, hread, heq⟩ := read16Then_reads s s.dp fun v t => t.setCD v
  exact ⟨w, t, hread, exec_eq_next rfl (heq.trans (setCD_eq t w))⟩

/-- Settles O29: the moves over memory are the shapes above; the others set DP, SP or CD. -/
theorem moveWords : Obligations.MoveWords := fun s _ _ _ _ =>
  ⟨copies_of_exec_dp_kept rfl, exec_ldCD_atDP s, storesWord_of_exec rfl,
   -- LD DP, AB; LD DP, nn; LD SP, nn; LD DP, SP + d; LD DP, CD + d: one setter each
   rfl, rfl, rfl, rfl, rfl,
   exec_eq_next rfl (setCD_eq s s.sp)⟩

theorem exec_exAB_CD (s : State) : exec .exAB_CD s = .next { s with a := s.c, b := s.d, c := s.a, d := s.b } := by
  have swap : (s.setAB (join16 s.d s.c)).setCD (join16 s.b s.a) =
      { s with a := s.c, b := s.d, c := s.a, d := s.b } := by
    rw [setCD_join16, setAB_join16]
  exact exec_eq_next rfl swap

theorem exec_exCD_DP (s : State) :
    exec .exCD_DP s = .next { s with c := lo8 s.dp, d := hi8 s.dp, dp := join16 s.d s.c } :=
  exec_eq_next rfl (congrArg (State.setDp · s.cd) (setCD_eq s s.dp))

/-- `EX DP, (nn)`: the reads leave DP alone, so the word written is the old DP (40_load_exchange.md R159). -/
theorem exec_exDP_atNN (s : State) (nn : Word) :
    ∃ w t u, ReadsWord s nn w t ∧ WritesWord t nn s.dp u ∧ exec (.exDP_atNN nn) s = .next { u with dp := w } := by
  obtain ⟨w, t, hread, heq⟩ := read16Then_reads s nn fun v t => (t.memWrite16 nn t.dp).setDp v
  rw [hread.dp_eq] at heq
  exact ⟨w, t, t.memWrite16 nn s.dp, hread, memWrite16_writes t nn s.dp, exec_eq_next rfl heq⟩

/-- Settles O30: the three exchanges one by one. -/
theorem exchanges : Obligations.Exchanges := fun s nn => ⟨exec_exAB_CD s, exec_exCD_DP s, exec_exDP_atNN s nn⟩

end Sys2Proof.Machine
end

section
/-! PROOF. The stack instructions (41_stack.md: O23, O31, O32): what each push and pop does, and that pops take back what
pushes onto RAM have saved. -/

namespace Sys2Proof.Machine

/-! ### The forms of PUSH and POP -/

section
variable {i : Instr} {s : State}

theorem pushes_of_exec {v : Byte} (h : exec i s = .next (s.push8 v)) : ∃ t, Pushes s v t ∧ exec i s = .next t :=
  ⟨_, push8_pushes s v, h⟩

theorem pushesWord_of_exec {w : Word} (h : exec i s = .next (s.push16 w)) :
    ∃ t, PushesWord s w t ∧ exec i s = .next t :=
  ⟨_, push16_pushes s w, h⟩

theorem pops_of_exec {k : Byte → State → State} (h : exec i s = .next (s.popThen k)) :
    ∃ v t, Pops s v t ∧ exec i s = .next (k v t) := by
  obtain ⟨v, t, hpop, heq⟩ := popThen_pops s k
  exact ⟨v, t, hpop, exec_eq_next h heq⟩

theorem popsWord_of_exec {k : Word → State → State} (h : exec i s = .next (s.pop16Then k)) :
    ∃ w t, PopsWord s w t ∧ exec i s = .next (k w t) := by
  obtain ⟨w, t, hpop, heq⟩ := pop16Then_pops s k
  exact ⟨w, t, hpop, exec_eq_next h heq⟩

end

/-- `PUSH ALL` is five pushes one after another, each of a value from before the instruction (41_stack.md R165). -/
theorem pushAll_pushes (s : State) :
    ∃ t1 t2 t3 t4 t5, PushesWord s s.dp t1 ∧ PushesWord t1 (join16 s.d s.c) t2 ∧ Pushes t2 s.f t3 ∧ Pushes t3 s.b t4 ∧
      Pushes t4 s.a t5 ∧ exec .pushALL s = .next t5 :=
  ⟨_, _, _, _, _, push16_pushes s s.dp, push16_pushes _ s.cd, push8_pushes _ s.f, push8_pushes _ s.b,
   push8_pushes _ s.a, rfl⟩

/-- Settles O31: each arm is `push8`, `push16`, a read before a push, or the frame of `PUSH ALL`. -/
theorem pushInstructions : Obligations.PushInstructions := fun s _ nn =>
  ⟨-- PUSH A, PUSH B, PUSH F, PUSH n
   pushes_of_exec rfl, pushes_of_exec rfl, pushes_of_exec rfl, pushes_of_exec rfl,
   -- PUSH CD, PUSH DP
   pushesWord_of_exec rfl, pushesWord_of_exec rfl,
   -- PUSH (nn)
   ⟨_, _, _, memRead_reads s nn, push8_pushes _ _, rfl⟩,
   pushAll_pushes s⟩

/-- `POP ALL` is five pops one after another; the registers are written from what they deliver (41_stack.md R173). -/
theorem popAll_pops (s : State) :
    ∃ a b f cd dp t1 t2 t3 t4 t5, Pops s a t1 ∧ Pops t1 b t2 ∧ Pops t2 f t3 ∧ PopsWord t3 cd t4 ∧ PopsWord t4 dp t5 ∧
      exec .popALL s = .next { t5 with a := a, b := b, f := f, c := lo8 cd, d := hi8 cd, dp := dp } := by
  obtain ⟨a, t1, h1, e1⟩ := pops_of_exec (i := .popALL) (s := s) rfl
  obtain ⟨b, t2, h2, e2⟩ := popThen_pops t1 _
  obtain ⟨f, t3, h3, e3⟩ := popThen_pops t2 _
  obtain ⟨cd, t4, h4, e4⟩ := pop16Then_pops t3 _
  obtain ⟨dp, t5, h5, e5⟩ := pop16Then_pops t4 _
  exact ⟨a, b, f, cd, dp, t1, t2, t3, t4, t5, h1, h2, h3, h4, h5,
    exec_eq_next e1 (e2.trans (e3.trans (e4.trans e5)))⟩

/-- `POP (nn)` moves the byte at SP before SP steps; the move leaves SP alone (41_stack.md R174). -/
theorem exec_popAtNN (s : State) (nn : Word) :
    ∃ v t u, ReadsByte s s.sp v t ∧ WritesByte t nn v u ∧ exec (.popAtNN nn) s = .next { u with sp := padd s.sp 1 } := by
  have step_eq : stepSp 1 (copyByte s.sp nn s) = { copyByte s.sp nn s with sp := padd s.sp 1 } := by
    rw [stepSp, copyByte_sp]
    rfl
  exact ⟨_, _, _, memRead_reads s s.sp, memWrite_writes _ nn _, exec_eq_next rfl step_eq⟩

/-- Settles O32: each arm is one pop with a register written, the five pops of `POP ALL`, or the move of `POP (nn)`. -/
theorem popInstructions : Obligations.PopInstructions := fun s nn =>
  ⟨-- POP A, POP B, POP F
   pops_of_exec rfl, pops_of_exec rfl, pops_of_exec rfl,
   -- POP CD, POP DP
   popsWord_of_exec rfl, popsWord_of_exec rfl,
   popAll_pops s,
   exec_popAtNN s nn⟩

/-! ### Addresses counted from SP inside the page -/

section
variable (r : Word) (n : Nat)

theorem padd_ofNat_zero : padd r (BitVec.ofNat 16 0) = r := padd_zero r

/-- Counting up from one step above. -/
theorem padd_up_ofNat : padd (padd r 1) (BitVec.ofNat 16 n) = padd r (BitVec.ofNat 16 (n + 1)) := by
  have hsum : 1 + BitVec.ofNat 16 n = BitVec.ofNat 16 (n + 1) := by bv_omega
  rw [padd_padd, hsum]

/-- Counting up from one step below. -/
theorem padd_down_ofNat_succ : padd (padd r 0xFFFF) (BitVec.ofNat 16 (n + 1)) = padd r (BitVec.ofNat 16 n) := by
  have hsum : 0xFFFF + BitVec.ofNat 16 (n + 1) = BitVec.ofNat 16 n := by bv_omega
  rw [padd_padd, hsum]

theorem padd_neg_ofNat_down : padd (padd r (-BitVec.ofNat 16 n)) 0xFFFF = padd r (-BitVec.ofNat 16 (n + 1)) := by
  have hsum : -BitVec.ofNat 16 n + 0xFFFF = -BitVec.ofNat 16 (n + 1) := by bv_omega
  rw [padd_padd, hsum]

theorem padd_neg_ofNat_succ_up : padd (padd r (-BitVec.ofNat 16 (n + 1))) 1 = padd r (-BitVec.ofNat 16 n) := by
  have hsum : -BitVec.ofNat 16 (n + 1) + 1 = -BitVec.ofNat 16 n := by bv_omega
  rw [padd_padd, hsum]

/-- Fewer than 16383 steps up do not come to the address one step below. -/
theorem padd_ofNat_ne_down (h : n < 16383) : padd r (BitVec.ofNat 16 n) ≠ padd r 0xFFFF := by
  have hdown : (0xFFFF : Word).toNat = 65535 := rfl
  apply padd_ne
  rw [hdown, BitVec.toNat_ofNat]
  omega

end

/-! ### Bytes that lie on the stack -/

/-- The bytes from SP upwards inside the page are RAM and hold `bytes`. -/
def StackHolds (s : State) (bytes : List Byte) : Prop :=
  ∀ k, (h : k < bytes.length) →
    s.kindAt (padd s.sp (BitVec.ofNat 16 k)) = .ram ∧ s.stored (padd s.sp (BitVec.ofNat 16 k)) = bytes[k]

namespace StackHolds

variable {s t : State} {v lo hi : Byte} {bytes : List Byte}

theorem nil (s : State) : StackHolds s [] := fun k h => absurd h (Nat.not_lt_zero k)

/-- What lies on the stack depends on SP, memory and the memory map only. -/
theorem congr (h : StackHolds s bytes) (hsp : t.sp = s.sp) (hmem : t.mem = s.mem) (hmap : t.memMap = s.memMap) :
    StackHolds t bytes := by
  intro k hk
  simpa only [State.kindAt, State.stored, hsp, hmem, hmap] using h k hk

/-- A push onto RAM puts its byte below the bytes that lay on the stack, while they do not fill the page. -/
theorem push8 (h : StackHolds s bytes) (hram : s.kindAt (padd s.sp 0xFFFF) = .ram) (hroom : bytes.length < 16384) :
    StackHolds (s.push8 v) (v :: bytes) := by
  rw [push8_ram s v hram]
  intro k hk
  cases k with
  | zero =>
    simp only [padd_ofNat_zero]
    exact ⟨hram, stored_store_same s _ v⟩
  | succ k =>
    have hlt : k < bytes.length := Nat.lt_of_succ_lt_succ hk
    have hne : padd s.sp (BitVec.ofNat 16 k) ≠ padd s.sp 0xFFFF := padd_ofNat_ne_down s.sp k (by omega)
    obtain ⟨hkind, hstored⟩ := h k hlt
    simp only [padd_down_ofNat_succ]
    exact ⟨hkind, (stored_store_ne s v hne).trans hstored⟩

/-- The lowest byte lies at SP. -/
theorem head (h : StackHolds s (v :: bytes)) : s.kindAt s.sp = .ram ∧ s.stored s.sp = v := by
  simpa only [padd_ofNat_zero, List.getElem_cons_zero] using h 0 (Nat.zero_lt_succ _)

/-- A pop delivers the lowest byte on the stack. -/
theorem popThen (h : StackHolds s (v :: bytes)) (k : Byte → State → State) :
    s.popThen k = k v (s.setSp (padd s.sp 1)) := by
  obtain ⟨hkind, hstored⟩ := h.head
  rw [popThen_stored s k (.inl hkind), hstored]

/-- After a pop the other bytes lie on the stack. -/
theorem tail (h : StackHolds s (v :: bytes)) : StackHolds (s.setSp (padd s.sp 1)) bytes := by
  intro k hk
  simp only [setSp_sp, padd_up_ofNat]
  exact h (k + 1) (Nat.succ_lt_succ hk)

/-- A 16-bit pop delivers the word of the two lowest bytes. -/
theorem pop16Then (h : StackHolds s (lo :: hi :: bytes)) (k : Word → State → State) :
    s.pop16Then k = k (join16 hi lo) (s.setSp (padd s.sp 2)) := by
  rw [pop16Then_eq, h.popThen, h.tail.popThen]
  simp [padd_padd, State.setSp]

/-- After a 16-bit pop the other bytes lie on the stack. -/
theorem drop_two (h : StackHolds s (lo :: hi :: bytes)) : StackHolds (s.setSp (padd s.sp 2)) bytes :=
  h.tail.tail.congr (by simp [padd_padd]) rfl rfl

end StackHolds

/-! ### Pushing a list of bytes -/

/-- The bytes of a list pushed one after another, the last of the list first, so that the head lies lowest. -/
def pushBytes : List Byte → State → State
  | [], s => s
  | v :: rest, s => (pushBytes rest s).push8 v

/-- The frame of `PUSH ALL` from the lowest byte up (41_stack.md R358). -/
def pushAllFrame (s : State) : List Byte := [s.a, s.b, s.f, s.c, s.d, lo8 s.dp, hi8 s.dp]

theorem pushAll_eq_pushBytes (s : State) : pushAll s = pushBytes (pushAllFrame s) s := by
  simp [pushAll, pushAllFrame, pushBytes, State.push16, State.cd]

@[simp] theorem push8_memMap (s : State) (v : Byte) : (s.push8 v).memMap = s.memMap := by simp [State.push8]

@[simp] theorem pushBytes_memMap (bytes : List Byte) (s : State) : (pushBytes bytes s).memMap = s.memMap := by
  induction bytes with
  | nil => rfl
  | cons v rest ih => rw [pushBytes, push8_memMap, ih]

theorem pushBytes_sp (bytes : List Byte) (s : State) :
    (pushBytes bytes s).sp = padd s.sp (-BitVec.ofNat 16 bytes.length) := by
  induction bytes with
  | nil => exact (padd_zero s.sp).symm
  | cons v rest ih =>
    rw [pushBytes, push8_sp, ih, padd_neg_ofNat_down, List.length_cons]

/-- Bytes pushed onto RAM lie on the stack, if they fit into a page. -/
theorem stackHolds_pushBytes {s : State} {bytes : List Byte} (hfit : bytes.length ≤ 16384)
    (hram : StackIsRam s (padd s.sp (-BitVec.ofNat 16 bytes.length)) bytes.length) :
    StackHolds (pushBytes bytes s) bytes := by
  induction bytes with
  | nil => exact .nil s
  | cons v rest ih =>
    obtain ⟨hlowest, hrest⟩ := hram
    have hheld : StackHolds (pushBytes rest s) rest :=
      ih (Nat.le_of_succ_le hfit) (padd_neg_ofNat_succ_up s.sp rest.length ▸ hrest)
    refine hheld.push8 ?_ hfit
    rw [pushBytes_sp, padd_neg_ofNat_down, State.kindAt, pushBytes_memMap]
    exact hlowest

/-! ### POP ALL after PUSH ALL -/

/-- `POP ALL` from a stack that holds the frame of `s` loads the registers of `s` and steps SP over the frame. -/
theorem popAll_of_stackHolds {s u : State} (h : StackHolds u (pushAllFrame s)) :
    popAll u = { u with a := s.a, b := s.b, f := s.f, c := s.c, d := s.d, dp := s.dp, sp := padd u.sp 7 } := by
  have hb := h.tail
  have hf := hb.tail
  have hcd := hf.tail
  have hdp := hcd.drop_two
  rw [popAll, h.popThen, hb.popThen, hf.popThen, hcd.pop16Then, hdp.pop16Then, setCD_join16, join16_hi8_lo8]
  simp [State.setReg, State.setF, State.setDp, State.setSp, padd_padd]

/-- Settles O23: `PUSH ALL` leaves the frame of `s` on the stack, seven bytes below its SP, and it lies there for `u`. -/
theorem popAllUndoesPushAll : Obligations.PopAllUndoesPushAll := by
  intro s t u hram hexec hsp hmem hmap
  obtain rfl : pushAll s = t := Host.Outcome.next.inj hexec
  have hframe : StackHolds (pushAll s) (pushAllFrame s) :=
    pushAll_eq_pushBytes s ▸ stackHolds_pushBytes (bytes := pushAllFrame s) (by simp [pushAllFrame]) hram
  have hback : padd u.sp 7 = s.sp := by
    rw [hsp, pushAll_sp, padd_padd]
    exact padd_zero s.sp
  exact exec_eq_next rfl ((popAll_of_stackHolds (hframe.congr hsp hmem hmap)).trans (by rw [hback]))

end Sys2Proof.Machine
end

section
/-! PROOF. The 8-bit ALU instructions (42_alu8.md: O14, O33, O34, O35, O36, O37, O38): each arm of `exec` is one of the
shared operations `aluReg`, `aluRegMem`, `updateMem`, `setF`, and what an arm of each shape does is said once; F is then
the flag byte of an ALU operation, which holds one sign flag and one comparison flag. -/

namespace Sys2Proof.Machine

/-! ### The register operations as the state with fields replaced -/

theorem aluReg_eq (op : AluOp) (r : Reg) (x : Byte) (cin : Bool) (s : State) :
    aluReg op r x cin s = { s.setReg r (alu op (s.reg r) x cin).1 with f := (alu op (s.reg r) x cin).2 } := rfl

/-- A read leaves A alone, so the first input is the A from before the instruction (42_alu8_part2.md R377). -/
theorem aluRegMem_A_eq (op : AluOp) (ea : Word) (cin : Bool) (s : State) :
    aluRegMem op .A ea cin s =
      { (s.memRead ea).2 with a := (alu op s.a (s.memRead ea).1 cin).1, f := (alu op s.a (s.memRead ea).1 cin).2 } := by
  rw [aluRegMem, readThen_eq, aluReg_eq, reg_A, memRead_a, setReg_A_eq]

/-! ### What an instruction of each shape does -/

section
variable {i : Instr} {op : AluOp} {s : State}

theorem aluInto_of_exec {r : Reg} {x : Byte} {cin : Bool} (h : exec i s = .next (aluReg op r x cin s)) :
    AluInto i op r x cin s :=
  ⟨_, _, alu_does op (s.reg r) x cin, exec_eq_next h (aluReg_eq op r x cin s)⟩

theorem aluFrom_of_exec {ea : Word} {cin : Bool} (h : exec i s = .next (aluRegMem op .A ea cin s)) :
    AluFrom i op ea cin s :=
  ⟨_, _, _, _, memRead_reads s ea, alu_does op s.a _ cin, exec_eq_next h (aluRegMem_A_eq op ea cin s)⟩

theorem aluOnto_of_exec {ea : Word} {x : Byte} {cin : Bool}
    (h : exec i s = .next (updateMem ea (fun m => alu op m x cin) s)) : AluOnto i op ea x cin s :=
  ⟨_, _, _, _, _, memRead_reads s ea, alu_does op _ x cin, memWrite_writes _ ea _, h⟩

theorem aluFlagsOnly_of_exec {arg1 x : Byte} (h : exec i s = .next (s.setF (alu op arg1 x false).2)) :
    AluFlagsOnly i op arg1 x s :=
  ⟨_, _, alu_does op arg1 x false, h⟩

end

/-! ### Exactly one sign flag and one comparison flag -/

/-- Of three flags exactly one is set when one of them is and the two others are not. -/
theorem countP_eq_one {p : Flag → Bool} {x y z : Flag}
    (h : (p x = true ∧ ¬ p y = true ∧ ¬ p z = true) ∨ (¬ p x = true ∧ p y = true ∧ ¬ p z = true) ∨
      (¬ p x = true ∧ ¬ p y = true ∧ p z = true)) : [x, y, z].countP p = 1 := by
  rcases h with ⟨hx, hy, hz⟩ | ⟨hx, hy, hz⟩ | ⟨hx, hy, hz⟩ <;> simp [hx, hy, hz]

/-- The result is zero, negative or positive (42_alu8.md R365, decisions D3, D4). -/
theorem FlagsAre.one_sign {f r : Byte} {carry overflow : Prop} {m n : Nat} (h : FlagsAre f carry overflow r m n) :
    [Flag.Z, .NEG, .POS].countP (flagOf f) = 1 := by
  apply countP_eq_one
  rw [h.z, h.neg, h.pos]
  omega

/-- The first input is equal to, below or above the second (42_alu8.md R366, decision D6). -/
theorem FlagsAre.one_order {f r : Byte} {carry overflow : Prop} {m n : Nat} (h : FlagsAre f carry overflow r m n) :
    [Flag.EQ, .LT, .GT].countP (flagOf f) = 1 := by
  apply countP_eq_one
  rw [h.eq, h.lt, h.gt]
  omega

/-! ### Where the instructions of the Flags column take F from -/

/-- F of the state is the flag byte of some ALU operation. -/
def FlagsFromAlu (t : State) : Prop := ∃ op arg1 x cin, t.f = (alu op arg1 x cin).2

namespace FlagsFromAlu

variable (op : AluOp) (cin : Bool) (s : State)

theorem setF (arg1 x : Byte) : FlagsFromAlu (s.setF (alu op arg1 x cin).2) := ⟨_, _, _, _, setF_f _ _⟩

theorem aluReg (r : Reg) (x : Byte) : FlagsFromAlu (aluReg op r x cin s) := setF op cin _ _ x

theorem aluRegMem (r : Reg) (ea : Word) : FlagsFromAlu (aluRegMem op r ea cin s) := aluReg op cin _ r _

theorem aluPair (lo hi : Byte) : FlagsFromAlu (aluPair op lo hi s) := setF op _ _ _ hi

/-- Whichever of its inputs the operation takes from memory. -/
theorem updateMem (ea : Word) (arg1 x : Byte → Byte) :
    FlagsFromAlu (updateMem ea (fun m => alu op (arg1 m) (x m) cin) s) := setF op cin _ _ _

theorem one_sign {t : State} (h : FlagsFromAlu t) : [Flag.Z, .NEG, .POS].countP (fun x => t.flag x) = 1 := by
  obtain ⟨op, arg1, x, cin, hf⟩ := h
  simp only [State.flag, hf]
  exact (aluFlags_are op arg1 x cin).one_sign

theorem one_order {t : State} (h : FlagsFromAlu t) : [Flag.EQ, .LT, .GT].countP (fun x => t.flag x) = 1 := by
  obtain ⟨op, arg1, x, cin, hf⟩ := h
  simp only [State.flag, hf]
  exact (aluFlags_are op arg1 x cin).one_order

end FlagsFromAlu

/-- Every instruction is none of the Flags column or leaves the flag byte of an ALU operation: one case per shape of
instruction. -/
theorem exec_flagsFromAlu (i : Instr) (s : State) :
    ∃ t, exec i s = .next t ∧ (writesFlags i = false ∨ FlagsFromAlu t) := by
  cases i with
  -- register destination
  | addA_B | addA_C | addA_D | addA_n | addB_n | addC_n | addD_n | addcA_A | addcA_B | addcA_C | addcA_D | addcA_n
  | addcB_n | addcC_n | addcD_n | subA_B | subA_C | subA_D | subA_n | subB_n | subC_n | subD_n | subbA_B | subbA_C
  | subbA_D | subbA_n | subbB_n | subbC_n | subbD_n | incA | decA | cplA | andA_B | andA_C | andA_D | andA_n | andB_n
  | andC_n | andD_n | orA_B | orA_C | orA_D | orA_n | orB_n | orC_n | orD_n | xorA_B | xorA_C | xorA_D | xorA_n
  | xorB_n | xorC_n | xorD_n => exact ⟨_, rfl, .inr (.aluReg _ _ _ _ _)⟩
  | addA_atDP | addcA_atDP | subA_atDP | subbA_atDP | andA_atDP | orA_atDP | xorA_atDP =>
    exact ⟨_, rfl, .inr (.aluRegMem _ _ _ _ _)⟩
  -- memory destination: the byte read is the first input, or the second after A (47_io.md R523)
  | addAtDP_A | addcAtDP_A | subAtDP_A | subbAtDP_A | addAtDP_n | addcAtDP_n | subAtDP_n | subbAtDP_n | incAtDP
  | decAtDP | incAtNN | decAtNN | andAtDP_A | andAtDP_n | orAtDP_A | orAtDP_n | xorAtDP_A | xorAtDP_n | incioAtS
  | decioAtS | andioAtS_n | orioAtS_n | xorioAtS_n => exact ⟨_, rfl, .inr (.updateMem _ _ _ _ id fun _ => _)⟩
  | andioAtS_A | orioAtS_A | xorioAtS_A => exact ⟨_, rfl, .inr (.updateMem _ _ _ _ (fun _ => s.a) id)⟩
  -- flags only, after one read in the forms with (DP)
  | cpA_B | cpA_C | cpA_D | cpA_n | cpB_n | cpC_n | cpD_n | testA_n | cpA_atDP | cpAtDP_n =>
    exact ⟨_, rfl, .inr (.setF _ _ _ _ _)⟩
  -- the CD forms
  | addCD_AB | subCD_AB | addCD_nn | subCD_nn => exact ⟨_, rfl, .inr (.aluPair _ _ _ _)⟩
  | _ => exact ⟨_, rfl, .inl rfl⟩

/-- Settles O14: the instruction leaves the flag byte of an ALU operation. -/
theorem flagsOneHot : Obligations.FlagsOneHot := by
  intro i s t h hw
  obtain ⟨u, hu, hflags⟩ := exec_flagsFromAlu i s
  obtain rfl : u = t := Host.Outcome.next.inj (hu.symm.trans h)
  have halu : FlagsFromAlu u := hflags.resolve_left (by simp [hw])
  exact ⟨halu.one_sign, halu.one_order⟩

/-! ### The obligations on the single instructions -/

/-- Settles O33: each arm is `aluReg` on its register. -/
theorem arithmeticOnRegisters : Obligations.ArithmeticOnRegisters := fun _ _ =>
  ⟨-- ADD A, r; ADD r, n
   aluInto_of_exec rfl, aluInto_of_exec rfl, aluInto_of_exec rfl,
   aluInto_of_exec rfl, aluInto_of_exec rfl, aluInto_of_exec rfl, aluInto_of_exec rfl,
   -- ADDC A, r; ADDC r, n
   aluInto_of_exec rfl, aluInto_of_exec rfl, aluInto_of_exec rfl, aluInto_of_exec rfl,
   aluInto_of_exec rfl, aluInto_of_exec rfl, aluInto_of_exec rfl, aluInto_of_exec rfl,
   -- SUB A, r; SUB r, n
   aluInto_of_exec rfl, aluInto_of_exec rfl, aluInto_of_exec rfl,
   aluInto_of_exec rfl, aluInto_of_exec rfl, aluInto_of_exec rfl, aluInto_of_exec rfl,
   -- SUBB A, r; SUBB r, n
   aluInto_of_exec rfl, aluInto_of_exec rfl, aluInto_of_exec rfl,
   aluInto_of_exec rfl, aluInto_of_exec rfl, aluInto_of_exec rfl, aluInto_of_exec rfl,
   -- INC A, DEC A
   aluInto_of_exec rfl, aluInto_of_exec rfl⟩

/-- Settles O34: each arm is `aluReg` on its register, with no carry-in; CPL is XOR with 0xFF. -/
theorem logicOnRegisters : Obligations.LogicOnRegisters := fun _ _ =>
  ⟨-- AND A, r; AND r, n
   aluInto_of_exec rfl, aluInto_of_exec rfl, aluInto_of_exec rfl,
   aluInto_of_exec rfl, aluInto_of_exec rfl, aluInto_of_exec rfl, aluInto_of_exec rfl,
   -- OR A, r; OR r, n
   aluInto_of_exec rfl, aluInto_of_exec rfl, aluInto_of_exec rfl,
   aluInto_of_exec rfl, aluInto_of_exec rfl, aluInto_of_exec rfl, aluInto_of_exec rfl,
   -- XOR A, r; XOR r, n
   aluInto_of_exec rfl, aluInto_of_exec rfl, aluInto_of_exec rfl,
   aluInto_of_exec rfl, aluInto_of_exec rfl, aluInto_of_exec rfl, aluInto_of_exec rfl,
   -- CPL A
   aluInto_of_exec rfl⟩

/-- Settles O35: each arm is `aluRegMem` on A at DP. -/
theorem aluFromMemory : Obligations.AluFromMemory := fun _ =>
  ⟨-- ADD, ADDC, SUB, SUBB
   aluFrom_of_exec rfl, aluFrom_of_exec rfl, aluFrom_of_exec rfl, aluFrom_of_exec rfl,
   -- AND, OR, XOR
   aluFrom_of_exec rfl, aluFrom_of_exec rfl, aluFrom_of_exec rfl⟩

/-- Settles O36: each arm is `updateMem` with the byte read as the first input. -/
theorem aluOntoMemory : Obligations.AluOntoMemory := fun _ _ _ =>
  ⟨-- ADD, ADDC, SUB, SUBB (DP), A and (DP), n
   aluOnto_of_exec rfl, aluOnto_of_exec rfl, aluOnto_of_exec rfl, aluOnto_of_exec rfl,
   aluOnto_of_exec rfl, aluOnto_of_exec rfl, aluOnto_of_exec rfl, aluOnto_of_exec rfl,
   -- AND, OR, XOR (DP), A and (DP), n
   aluOnto_of_exec rfl, aluOnto_of_exec rfl, aluOnto_of_exec rfl, aluOnto_of_exec rfl, aluOnto_of_exec rfl,
   aluOnto_of_exec rfl,
   -- INC and DEC (DP) and (nn)
   aluOnto_of_exec rfl, aluOnto_of_exec rfl, aluOnto_of_exec rfl, aluOnto_of_exec rfl⟩

/-- Settles O37: each arm is `setF` of the flags, after one read in the forms with (DP); there the byte read is the
second input of `CP A, (DP)` and the first of `CP (DP), n` (42_alu8_part2.md R376). -/
theorem compareAndTest : Obligations.CompareAndTest := fun s n =>
  ⟨-- CP A, r; CP r, n; TEST A, n
   aluFlagsOnly_of_exec rfl, aluFlagsOnly_of_exec rfl, aluFlagsOnly_of_exec rfl,
   aluFlagsOnly_of_exec rfl, aluFlagsOnly_of_exec rfl, aluFlagsOnly_of_exec rfl, aluFlagsOnly_of_exec rfl,
   aluFlagsOnly_of_exec rfl,
   -- CP A, (DP); CP (DP), n
   ⟨_, _, _, _, memRead_reads s s.dp, alu_does .SUB s.a _ false, rfl⟩,
   ⟨_, _, _, _, memRead_reads s s.dp, alu_does .SUB _ n false, rfl⟩⟩

/-- Settles O38: no update, one register write, and two writes of IE. -/
theorem plainInstructions : Obligations.PlainInstructions := fun s => ⟨rfl, exec_eq_next rfl (setReg_A_eq s 0), rfl, rfl⟩

end Sys2Proof.Machine
end

section
/-! PROOF. Multiply and divide (43_muldiv.md: O39, O40, O41): `product`, `wideProduct` and `udiv` in integers, and where
each instruction puts what they deliver. -/

namespace Sys2Proof.Machine

/-! ### Products in integers -/

/-- The product of two bytes fits into a word (43_muldiv.md R373). -/
theorem product_toNat (a b : Byte) : (product a b).toNat = a.toNat * b.toNat := by
  have fits : a.toNat * b.toNat < 2 ^ 8 * 2 ^ 8 := Nat.mul_lt_mul'' a.isLt b.isLt
  rw [product, BitVec.toNat_mul, zext16_toNat, zext16_toNat]
  exact Nat.mod_eq_of_lt fits

theorem product_bytes_toNat (a b : Byte) :
    (hi8 (product a b)).toNat * 256 + (lo8 (product a b)).toNat = a.toNat * b.toNat := by
  rw [← word_eq_hi_lo, product_toNat]

/-- The product of a word and a byte fits into 24 bits (43_muldiv.md R373). -/
theorem wideProduct_toNat (w : Word) (c : Byte) : (wideProduct w c).toNat = w.toNat * c.toNat := by
  have fits : w.toNat * c.toNat < 2 ^ 16 * 2 ^ 8 := Nat.mul_lt_mul'' w.isLt c.isLt
  rw [wideProduct, BitVec.toNat_mul, BitVec.toNat_setWidth_of_le (by omega), BitVec.toNat_setWidth_of_le (by omega)]
  exact Nat.mod_eq_of_lt fits

/-- A 24-bit value is made of the three bytes that `setABC` writes. -/
theorem bytes24_toNat (p : BitVec 24) :
    (p.extractLsb' 16 8).toNat * 65536 + (p.extractLsb' 8 8).toNat * 256 + (p.extractLsb' 0 8).toNat = p.toNat := by
  have hp : p.toNat < 16777216 := p.isLt
  simp only [BitVec.extractLsb'_toNat, Nat.shiftRight_eq_div_pow]
  omega

/-! ### Quotient and remainder -/

/-- Division by a byte that is not zero (43_muldiv.md R374). -/
theorem udiv_of_ne_zero (a : Byte) {b : Byte} (h : b ≠ 0) : udiv a b = (a / b, a % b) := if_neg h

/-- Division by zero delivers the free value (43_muldiv.md R375, decision D13: log 12). -/
theorem udiv_zero (a : Byte) : udiv a 0 = Config.div0 a := if_pos rfl

theorem quotient_mul_add_remainder (a b : Byte) : (a / b).toNat * b.toNat + (a % b).toNat = a.toNat := by
  rw [BitVec.toNat_udiv, BitVec.toNat_umod, Nat.div_add_mod']

theorem remainder_lt (a : Byte) {b : Byte} (h : b ≠ 0) : (a % b).toNat < b.toNat :=
  BitVec.umod_lt a ((BitVec.pos_iff_ne_zero b).mpr h)

/-! ### Where the results go -/

theorem setAB_eq (s : State) (v : Word) : s.setAB v = { s with a := lo8 v, b := hi8 v } := rfl

theorem setABC_eq (s : State) (p : BitVec 24) :
    setABC p s = { s with a := p.extractLsb' 0 8, b := p.extractLsb' 8 8, c := p.extractLsb' 16 8 } := rfl

/-- `DIV A, n` puts what `UDIV` delivers into A and B (43_muldiv.md R249). -/
theorem exec_divA_n (s : State) (n : Byte) :
    exec (.divA_n n) s = .next { s with a := (udiv s.a n).1, b := (udiv s.a n).2 } := rfl

/-- The forms that divide A by B put the quotient byte `q` and the remainder byte `m` that `UDIV` delivers into A and B,
C and D, DP and the byte after it, or `q` alone into A (43_muldiv.md R248, R250 to R252). -/
theorem exec_divisions_by_B {s : State} {q m : Byte} (h : udiv s.a s.b = (q, m)) :
    exec .divA_B s = .next { s with a := q, b := m } ∧ exec .divCD_AB s = .next { s with c := q, d := m } ∧
    StoresWord .divAtDP_AB s s.dp (join16 m q) ∧ exec .divnrA_B s = .next { s with a := q } := by
  obtain ⟨rfl, rfl⟩ := Prod.mk.inj h
  exact ⟨rfl, rfl, storesWord_of_exec rfl, rfl⟩

/-! ### The obligations -/

/-- Settles O39: each arm delivers the bytes of `product` or of `wideProduct`. -/
theorem multiply : Obligations.Multiply := by
  intro s n
  have hwide := (bytes24_toNat (wideProduct s.ab s.c)).trans (wideProduct_toNat s.ab s.c)
  rw [ab_toNat] at hwide
  exact
    ⟨-- MUL AB, MUL CD, AB
     ⟨_, _, product_bytes_toNat s.a s.b, exec_eq_next rfl (setAB_eq s _), exec_eq_next rfl (setCD_eq s _)⟩,
     -- MUL A, n
     ⟨_, _, product_bytes_toNat s.a n, exec_eq_next rfl (setAB_eq s _)⟩,
     -- MUL (DP), AB
     ⟨_, product_toNat s.a s.b, storesWord_of_exec rfl⟩,
     -- MUL16 AB, C
     ⟨_, _, _, hwide, exec_eq_next rfl (setABC_eq s _)⟩⟩

/-- Settles O40: `UDIV` delivers the quotient and the remainder of A by B, and by the operand byte. -/
theorem divide : Obligations.Divide := by
  intro s n
  constructor
  · intro hb
    exact ⟨_, _, BitVec.toNat_udiv, quotient_mul_add_remainder s.a s.b, remainder_lt s.a hb,
      exec_divisions_by_B (udiv_of_ne_zero s.a hb)⟩
  · intro hn
    have hexec := exec_divA_n s n
    rw [udiv_of_ne_zero s.a hn] at hexec
    exact ⟨_, _, BitVec.toNat_udiv, quotient_mul_add_remainder s.a n, remainder_lt s.a hn, hexec⟩

/-- Settles O41: `UDIV` by zero is the free value of the dividend, for B and for the operand byte. -/
theorem divideByZero : Obligations.DivideByZero := by
  intro s
  constructor
  · rw [exec_divA_n, udiv_zero]
  · intro hb
    have hudiv : udiv s.a s.b = Config.div0 s.a := by rw [hb, udiv_zero]
    exact exec_divisions_by_B hudiv

end Sys2Proof.Machine
end

section
/-! PROOF. The EXT instructions and the field modes of `EXT(arg, OP)` (44_ext.md sections 1 to 4: O42 to O47): the mode
and the two fields of the selector in integers, the masks bit by bit, the slices and shifts as integers. -/

namespace Sys2Proof.Machine

/-- Settles O42: each arm writes the pair, the word or the register of its form. -/
theorem extInstructions : Obligations.ExtInstructions := fun s _ =>
  ⟨exec_eq_next rfl (setAB_eq s _), exec_eq_next rfl (setAB_eq s _), storesWord_of_exec rfl,
   exec_eq_next rfl (setCD_eq s _), exec_eq_next rfl (setReg_A_eq s _)⟩

/-! ### The selector in integers (44_ext.md R391) -/

theorem getLsbD_eq_decide (op : Byte) (i : Nat) : op.getLsbD i = decide (op.toNat / 2 ^ i % 2 = 1) :=
  Nat.testBit_eq_decide_div_mod_eq

theorem extPlace_eq (op : Byte) : extPlace op = op.toNat % 8 := by
  rw [extPlace, BitVec.extractLsb'_toNat, Nat.shiftRight_zero]

theorem extLength_eq (op : Byte) : extLength op = op.toNat / 8 % 8 := by
  rw [extLength, BitVec.extractLsb'_toNat, Nat.shiftRight_eq_div_pow]

theorem ext_of_lt_128 (arg : Byte) {op : Byte} (h : op.toNat < 128) : ext arg op = extInsert arg op := by
  have bit7 : op.getLsbD 7 = false := by
    rw [getLsbD_eq_decide, decide_eq_false_iff_not]
    omega
  simp only [ext, bit7, Bool.not_false, if_true]

theorem ext_of_128_le_lt_192 (arg : Byte) {op : Byte} (h : 128 ≤ op.toNat) (h' : op.toNat < 192) :
    ext arg op = extSlice arg op := by
  have bit7 : op.getLsbD 7 = true := by
    rw [getLsbD_eq_decide, decide_eq_true_iff]
    omega
  have bit6 : op.getLsbD 6 = false := by
    rw [getLsbD_eq_decide, decide_eq_false_iff_not]
    omega
  simp only [ext, bit7, bit6, Bool.not_true, Bool.not_false, Bool.false_eq_true, if_true, if_false]

/-! ### Bit insertion (44_ext.md R400 to R405) -/

/-- The ones that `extInsert` shifts to the place of the field. -/
theorem lowOnes_getLsbD {l : Nat} (h : l < 8) (i : Nat) :
    (zext16 (BitVec.ofNat 8 (2 ^ l - 1))).getLsbD i = decide (i < l) := by
  rw [zext16, BitVec.getLsbD_setWidth, BitVec.getLsbD_ofNat, Nat.testBit_two_pow_sub_one, Bool.eq_iff_iff]
  simp only [Bool.and_eq_true, decide_eq_true_eq]
  omega

/-- A word moved left by `16 - p - l` has its bit `p + l - 1 - k` at stream index `k`, and zeros after the field. -/
theorem shiftToField_getLsbD (v : Word) {p l k : Nat} (hk : k < 16) (hpl : p + l ≤ 16) :
    (v <<< (16 - p - l)).getLsbD (15 - k) = (decide (k < p + l) && v.getLsbD (p + l - 1 - k)) := by
  rw [BitVec.getLsbD_shiftLeft]
  by_cases inside : k < p + l
  · have hplace : 15 - k - (16 - p - l) = p + l - 1 - k := by omega
    have hbefore : ¬ 15 - k < 16 - p - l := by omega
    simp [hplace, hbefore, inside, show 15 - k < 16 by omega]
  · have hafter : 15 - k < 16 - p - l := by omega
    simp [hafter, inside]

section
variable {p l k : Nat}

/-- The ones of `extInsert` at their place: exactly the stream indices of the field. -/
theorem fieldOnes_getLsbD (hp : p < 8) (hl : l < 8) (hk : k < 16) :
    (zext16 (BitVec.ofNat 8 (2 ^ l - 1)) <<< (16 - p - l)).getLsbD (15 - k) = decide (p ≤ k ∧ k < p + l) := by
  rw [shiftToField_getLsbD _ hk (by omega), lowOnes_getLsbD hl, Bool.eq_iff_iff]
  simp only [Bool.and_eq_true, decide_eq_true_eq]
  omega

/-- The low bits of `arg` at their place: the field, with zeros elsewhere (44_ext.md R402). -/
theorem fieldBits_getLsbD (arg : Byte) (hp : p < 8) (hl : l < 8) (hk : k < 16) :
    ((zext16 arg &&& zext16 (BitVec.ofNat 8 (2 ^ l - 1))) <<< (16 - p - l)).getLsbD (15 - k) =
      (decide (p ≤ k ∧ k < p + l) && arg.getLsbD (p + l - 1 - k)) := by
  rw [BitVec.shiftLeft_and_distrib, BitVec.getLsbD_and, fieldOnes_getLsbD hp hl hk,
    shiftToField_getLsbD _ hk (by omega), zext16, BitVec.getLsbD_setWidth]
  by_cases inside : p ≤ k ∧ k < p + l
  · have hrange : p + l - 1 - k < 16 := by omega
    simp [inside, hrange]
  · simp [inside]

end

/-- The stream word of an insertion mask, bit by bit: the field from `arg`, elsewhere the negation of the selector's bit
6, which tells set from reset (44_ext.md R402 to R404). -/
theorem streamWord_getLsbD (arg : Byte) {op : Byte} {k : Nat} (hop : op.toNat < 128) (hk : k < 16) :
    (join16 (lo8 (ext arg op)) (hi8 (ext arg op))).getLsbD (15 - k) =
      if extPlace op ≤ k ∧ k < extPlace op + extLength op
      then arg.getLsbD (extPlace op + extLength op - 1 - k)
      else !op.getLsbD 6 := by
  have hp : extPlace op < 8 := by rw [extPlace_eq]; omega
  have hl : extLength op < 8 := by rw [extLength_eq]; omega
  have complement : ∀ v : Word, 0xFFFF ^^^ v = ~~~v := fun _ => BitVec.allOnes_xor
  rw [ext_of_lt_128 arg hop, extInsert, lo8_join16, hi8_join16, join16_hi8_lo8, complement]
  cases op.getLsbD 6 with
  | true =>
    rw [if_pos rfl, fieldBits_getLsbD arg hp hl hk]
    split <;> simp [*]
  | false =>
    rw [if_neg Bool.false_ne_true, BitVec.getLsbD_or, BitVec.getLsbD_not, fieldOnes_getLsbD hp hl hk,
      fieldBits_getLsbD arg hp hl hk]
    have hrange : 15 - k < 16 := by omega
    split <;> simp [*]

/-- Settles O43: the bits of the stream word, with the selector's fields in integers. -/
theorem extInsertionMasks : Obligations.ExtInsertionMasks := by
  intro arg op k hop hk
  have reset_iff : (!op.getLsbD 6) = decide (op.toNat < 64) := by
    rw [getLsbD_eq_decide, ← decide_not, decide_eq_decide]
    omega
  rw [streamWord_getLsbD arg hop hk, extPlace_eq, extLength_eq, reset_iff]

/-- Words with the same bit at every stream index are the same. -/
theorem words_eq_of_streamBits {v w : Word} (h : ∀ k < 16, v.getLsbD (15 - k) = w.getLsbD (15 - k)) :
    v = w := by
  apply BitVec.eq_of_getLsbD_eq
  intro i hi
  have hbit := h (15 - i) (by omega)
  rwa [show 15 - (15 - i) = i by omega] at hbit

/-- Settles O44: inside the field both masks hold the bit of `arg`, outside it the reset mask is 1 and the set mask 0. -/
theorem insertedFieldReplaced : Obligations.InsertedFieldReplaced := by
  intro arg op dst k hop hk r w
  have hset : (op + 64).toNat = op.toNat + 64 := by
    rw [BitVec.toNat_add, show (64 : Byte).toNat = 64 from rfl]
    omega
  have hplace : (op + 64).toNat % 8 = op.toNat % 8 := by omega
  have hlength : (op + 64).toNat / 8 % 8 = op.toNat / 8 % 8 := by omega
  have reset_bit : ∀ k < 16, r.getLsbD (15 - k) = _ := fun k hk => extInsertionMasks arg op k (by omega) hk
  have set_bit : ∀ k < 16, w.getLsbD (15 - k) = _ := fun k hk => extInsertionMasks arg (op + 64) k (by omega) hk
  rw [hplace, hlength, hset] at set_bit
  constructor
  · apply words_eq_of_streamBits
    intro j hj
    simp only [BitVec.getLsbD_or, BitVec.getLsbD_and, reset_bit j hj, set_bit j hj]
    split
    · cases arg.getLsbD _ <;> simp
    · simp [hop]
  · simp only [BitVec.getLsbD_or, BitVec.getLsbD_and, reset_bit k hk, set_bit k hk]
    split
    · cases arg.getLsbD _ <;> simp
    · simp [hop]

/-! ### Bit slicing (44_ext.md R408, R409) -/

theorem and_lowOnes_toNat (v : Byte) {l : Nat} (h : l ≤ 8) :
    (v &&& BitVec.ofNat 8 (2 ^ l - 1)).toNat = v.toNat % 2 ^ l := by
  have hpow : 2 ^ l ≤ 2 ^ 8 := Nat.pow_le_pow_right (by omega) h
  rw [BitVec.toNat_and, BitVec.toNat_ofNat, Nat.mod_eq_of_lt (by omega), Nat.and_two_pow_sub_one_eq_mod]

/-- The slice lies inside the byte (44_ext.md R408). -/
theorem extSlice_inside (arg : Byte) {op : Byte} (h : extPlace op + extLength op ≤ 8) :
    (lo8 (extSlice arg op)).toNat = arg.toNat / 2 ^ (8 - extPlace op - extLength op) % 2 ^ extLength op ∧
    hi8 (extSlice arg op) = 0 := by
  rw [extSlice, if_pos h, lo8_join16, hi8_join16, and_lowOnes_toNat _ (by omega), BitVec.toNat_ushiftRight,
    Nat.shiftRight_eq_div_pow]
  exact ⟨rfl, rfl⟩

/-- The low `8 - p` bits of a byte moved left past its end by `p + l - 8` still make an `l`-bit number. -/
theorem mod_mul_two_pow_lt (a : Nat) {p l : Nat} (hp : p < 8) (h : 8 < p + l) :
    a % 2 ^ (8 - p) * 2 ^ (p + l - 8) < 2 ^ l := by
  have hsplit : 2 ^ l = 2 ^ (8 - p) * 2 ^ (p + l - 8) := by
    rw [← pow_add]
    congr 1
    omega
  rw [hsplit]
  exact Nat.mul_lt_mul_of_pos_right (Nat.mod_lt _ (Nat.two_pow_pos _)) (Nat.two_pow_pos _)

/-- The slice runs past the byte (44_ext.md R409). -/
theorem extSlice_beyond (arg : Byte) {op : Byte} (hp : extPlace op < 8) (hl : extLength op < 8)
    (h : 8 < extPlace op + extLength op) :
    (lo8 (extSlice arg op)).toNat = arg.toNat % 2 ^ (8 - extPlace op) * 2 ^ (extPlace op + extLength op - 8) ∧
    (hi8 (extSlice arg op)).toNat = extPlace op + extLength op - 8 := by
  have hlt := mod_mul_two_pow_lt arg.toNat hp h
  have hpow : 2 ^ extLength op ≤ 2 ^ 8 := Nat.pow_le_pow_right (by omega) (by omega)
  rw [extSlice, if_neg (by omega), lo8_join16, hi8_join16, BitVec.toNat_shiftLeft, and_lowOnes_toNat _ (by omega),
    Nat.shiftLeft_eq, BitVec.toNat_ofNat]
  exact ⟨Nat.mod_eq_of_lt (by omega), Nat.mod_eq_of_lt (by omega)⟩

/-- Settles O45: the two cases of `extSlice`; a slice of no bits is a number below 1. -/
theorem extSlicing : Obligations.ExtSlicing := by
  intro arg op hop hop' l p
  have hl : extLength op = l := extLength_eq op
  have hp : extPlace op = p := extPlace_eq op
  have hl8 : l < 8 := Nat.mod_lt _ (by omega)
  have hp8 : p < 8 := Nat.mod_lt _ (by omega)
  rw [ext_of_128_le_lt_192 arg hop hop']
  constructor
  · intro hpl
    obtain ⟨hlo, hhi⟩ := extSlice_inside arg (op := op) (by omega)
    rw [hl, hp] at hlo
    refine ⟨hlo, hhi, fun hzero => ?_⟩
    have hlo0 : (lo8 (extSlice arg op)).toNat = 0 := by rw [hlo, hzero, pow_zero, Nat.mod_one]
    apply BitVec.eq_of_toNat_eq
    rw [word_eq_hi_lo, hlo0, hhi]
    rfl
  · intro hpl
    obtain ⟨hlo, hhi⟩ := extSlice_beyond arg (op := op) (by omega) (by omega) (by omega)
    rw [hl, hp] at hlo hhi
    refine ⟨hlo, hhi, by omega, by omega, ?_⟩
    rw [hlo]
    exact mod_mul_two_pow_lt arg.toNat hp8 hpl

/-! ### Shifts and rotates (44_ext.md R412 to R415), one equation per selector group -/

/-- Dividing by 256 after a multiplication by `2 ^ n` is dividing by the rest of 256. -/
theorem mul_two_pow_div_256 (a : Nat) {n : Nat} (h : n ≤ 8) : a * 2 ^ n / 256 = a / 2 ^ (8 - n) := by
  have hsplit : 256 = 2 ^ (8 - n) * 2 ^ n := (Nat.pow_sub_mul_pow 2 h).symm
  rw [hsplit, Nat.mul_div_mul_right _ _ (Nat.two_pow_pos n)]

section
variable (arg : Byte) {n : Nat}

theorem ext_shiftLeft (h : n < 8) : ext arg (0xC0 + BitVec.ofNat 8 n) = zext16 arg <<< n := by
  interval_cases n <;> rfl

theorem ext_shiftRight (h : n < 8) :
    ext arg (0xC8 + BitVec.ofNat 8 n) = join16 (arg <<< (8 - n)) (arg >>> n) := by
  interval_cases n <;> rfl

theorem ext_rotateLeft (h : n < 8) :
    ext arg (0xD0 + BitVec.ofNat 8 n) = join16 0 ((arg <<< n) ||| (arg >>> (8 - n))) := by
  interval_cases n <;> rfl

theorem ext_rotateRight (h : n < 8) :
    ext arg (0xD8 + BitVec.ofNat 8 n) = join16 0 ((arg >>> n) ||| (arg <<< (8 - n))) := by
  interval_cases n <;> rfl

theorem ext_shiftLeft_toNat (h : n < 8) : (ext arg (0xC0 + BitVec.ofNat 8 n)).toNat = arg.toNat * 2 ^ n := by
  have hpow : 2 ^ n ≤ 2 ^ 7 := Nat.pow_le_pow_right (by omega) (by omega)
  have hfits : arg.toNat * 2 ^ n ≤ 255 * 2 ^ 7 := Nat.mul_le_mul (by omega) hpow
  rw [ext_shiftLeft arg h, BitVec.toNat_shiftLeft, zext16_toNat, Nat.shiftLeft_eq, Nat.mod_eq_of_lt (by omega)]

/-- The bits of a rotate to the left: those moved up, and those that come back at the bottom. -/
theorem rotateLeft_getLsbD (hn : n < 8) {k : Nat} (hk : k < 8) :
    ((arg <<< n) ||| (arg >>> (8 - n))).getLsbD ((k + n) % 8) = arg.getLsbD k := by
  rw [BitVec.getLsbD_or, BitVec.getLsbD_shiftLeft, BitVec.getLsbD_ushiftRight]
  by_cases stays : k + n < 8
  · have hcome : arg.getLsbD (8 - n + (k + n)) = false := BitVec.getLsbD_of_ge _ _ (by omega)
    simp [Nat.mod_eq_of_lt stays, hcome, stays]
  · have hmod : (k + n) % 8 = k + n - 8 := by omega
    have hback : 8 - n + (k + n - 8) = k := by omega
    have hbelow : k + n - 8 < n := by omega
    simp [hmod, hback, hbelow]

theorem rotateRight_eq_rotateLeft (h : n ≤ 8) :
    (arg >>> n) ||| (arg <<< (8 - n)) = (arg <<< (8 - n)) ||| (arg >>> (8 - (8 - n))) := by
  rw [BitVec.or_comm, Nat.sub_sub_self h]

/-- The bits of a rotate to the right. -/
theorem rotateRight_getLsbD (hn : n < 8) {k : Nat} (hk : k < 8) :
    ((arg >>> n) ||| (arg <<< (8 - n))).getLsbD k = arg.getLsbD ((k + n) % 8) := by
  rw [BitVec.getLsbD_or, BitVec.getLsbD_shiftLeft, BitVec.getLsbD_ushiftRight, Nat.add_comm n k]
  by_cases stays : k + n < 8
  · have hbelow : k < 8 - n := by omega
    simp [Nat.mod_eq_of_lt stays, hbelow]
  · have hgone : arg.getLsbD (k + n) = false := BitVec.getLsbD_of_ge _ _ (by omega)
    have hback : (k + n) % 8 = k - (8 - n) := by omega
    have habove : ¬ k < 8 - n := by omega
    simp [hgone, hback, habove, hk]

end

/-- Settles O46: the four equations above, in integers for the shift and bit by bit for the rotates. -/
theorem extShiftLeftAndRotates : Obligations.ExtShiftLeftAndRotates := by
  intro arg n hn
  have hshift := ext_shiftLeft_toNat arg hn
  have hleft := ext_rotateLeft arg hn
  have hright := ext_rotateRight arg hn
  refine ⟨hshift, ?_, ?_, ?_, ?_, ?_, ?_, ?_⟩
  · rw [lo8_toNat, hshift]
  · rw [hi8_toNat, hshift, mul_two_pow_div_256 _ (by omega)]
  · intro k hk
    rw [hleft, lo8_join16, rotateLeft_getLsbD arg hn hk]
  · rw [hleft, hi8_join16]
  · intro k hk
    rw [hright, lo8_join16, rotateRight_getLsbD arg hn hk]
  · rw [hright, hi8_join16]
  · intro hpos
    rw [hright, ext_rotateLeft arg (n := 8 - n) (by omega), rotateRight_eq_rotateLeft arg (by omega)]

/-- Settles O47: both bytes are those of `arg * 2 ^ (8 - n)`, which is `arg * 256` shifted right by `n`. -/
theorem extShiftRight : Obligations.ExtShiftRight := by
  intro arg n hn
  have hwhole : arg.toNat * 256 / 2 ^ n = arg.toNat * 2 ^ (8 - n) := by
    have hsplit : 256 = 2 ^ (8 - n) * 2 ^ n := (Nat.pow_sub_mul_pow 2 (Nat.le_of_lt hn)).symm
    rw [hsplit, ← Nat.mul_assoc, Nat.mul_div_cancel _ (Nat.two_pow_pos n)]
  have hhigh : arg.toNat * 2 ^ (8 - n) / 256 = arg.toNat / 2 ^ n := by
    rw [mul_two_pow_div_256 _ (by omega), Nat.sub_sub_self (by omega)]
  rw [ext_shiftRight arg hn, lo8_join16, hi8_join16, BitVec.toNat_ushiftRight, Nat.shiftRight_eq_div_pow,
    BitVec.toNat_shiftLeft, Nat.shiftLeft_eq, hwhole]
  exact ⟨rfl, rfl, by omega⟩

end Sys2Proof.Machine
end

section
/-! PROOF. The bitwise operations and the powers of the math mode of `EXT(arg, OP)` (44_ext.md section 5: O48, O49):
what each byte operation delivers as an integer or bit by bit, and where `satu` saturates. -/

namespace Sys2Proof.Machine

/-! ### What the selectors 0xE0 to 0xE7 select (44_ext.md R420 to R425) -/

section
variable (arg : Byte)

theorem ext_negation : ext arg 0xE0 = join16 0 (~~~arg) := rfl

theorem ext_nibbleSwap : ext arg 0xE1 = lowOnly 0xE1 (swapNibbles arg) := rfl

theorem ext_mirrorImage : ext arg 0xE2 = lowOnly 0xE2 (mirrorBits arg) := rfl

theorem ext_onesCount : ext arg 0xE3 = lowOnly 0xE3 (countOnes arg) := rfl

theorem ext_arithmeticNegation : ext arg 0xE4 = lowOnly 0xE4 (0 - arg) := rfl

theorem ext_shiftRightSigned : ext arg 0xE5 = shiftRightSigned arg := rfl

theorem ext_absoluteValue : ext arg 0xE6 = lowOnly 0xE6 (if arg.msb then 0 - arg else arg) := rfl

theorem ext_signMagnitude : ext arg 0xE7 = lowOnly 0xE7 (signMagnitude arg) := rfl

end

@[simp] theorem lo8_lowOnly (op low : Byte) : lo8 (lowOnly op low) = low := lo8_join16 _ _

@[simp] theorem hi8_lowOnly (op low : Byte) : hi8 (lowOnly op low) = Config.extHighUnstated op := hi8_join16 _ _

/-! ### The byte operations -/

section
variable (arg : Byte)

theorem swapNibbles_toNat : (swapNibbles arg).toNat = arg.toNat % 16 * 16 + arg.toNat / 16 := by
  have hbyte := arg.isLt
  have hup : (arg <<< 4).toNat = (arg.toNat % 16) <<< 4 := by
    rw [BitVec.toNat_shiftLeft, Nat.shiftLeft_eq, Nat.shiftLeft_eq]
    omega
  have hdown : (arg >>> 4).toNat = arg.toNat / 16 := by
    rw [BitVec.toNat_ushiftRight, Nat.shiftRight_eq_div_pow]
  rw [swapNibbles, BitVec.toNat_or, hup, hdown, ← Nat.shiftLeft_add_eq_or_of_lt (by omega), Nat.shiftLeft_eq]

theorem mirrorBits_getLsbD {k : Nat} (hk : k < 8) : (mirrorBits arg).getLsbD k = arg.getLsbD (7 - k) := by
  rw [mirrorBits, BitVec.getLsbD_reverse, BitVec.getMsbD_eq_getLsbD, decide_eq_true hk, Bool.true_and]

theorem countOnes_toNat : (countOnes arg).toNat = (List.range 8).countP fun k => arg.getLsbD k := by
  have hfew : ((List.range 8).filter arg.getLsbD).length ≤ 8 := List.length_filter_le _ _
  rw [countOnes, BitVec.toNat_ofNat, Nat.mod_eq_of_lt (by omega), List.countP_eq_length_filter]

theorem zero_sub_toNat : (0 - arg).toNat = (256 - arg.toNat) % 256 := by
  rw [show 0 - arg = -arg from BitVec.zero_sub arg, BitVec.toNat_neg]

/-- The low byte of 0xE5 is the arithmetic shift. -/
theorem sshiftRight_one_eq : (arg >>> 1) ||| (arg &&& 0x80) = arg.sshiftRight 1 := by
  have signBit : ∀ k < 8, (0x80 : Byte).getLsbD k = decide (k = 7) := by decide
  apply BitVec.eq_of_getLsbD_eq
  intro k hk
  rw [BitVec.getLsbD_or, BitVec.getLsbD_and, BitVec.getLsbD_ushiftRight, BitVec.getLsbD_sshiftRight, signBit k hk,
    Nat.add_comm 1 k]
  by_cases top : k = 7
  · simp [top, BitVec.msb_eq_getLsbD_last]
  · have hmoved : k + 1 < 8 := by omega
    simp [top, hmoved, hk]

theorem lo8_shiftRightSigned_toInt : (lo8 (shiftRightSigned arg)).toInt = arg.toInt / 2 := by
  rw [shiftRightSigned, lo8_join16, sshiftRight_one_eq, BitVec.toInt_sshiftRight, Int.shiftRight_eq_div_pow]
  rfl

/-- Bit 7 of the high byte of 0xE5 is the bit shifted out, the other bits are those of the free value. -/
theorem hi8_shiftRightSigned_getLsbD {k : Nat} (hk : k < 8) :
    (hi8 (shiftRightSigned arg)).getLsbD k =
      if k = 7 then arg.getLsbD 0 else (Config.extHighUnstated 0xE5).getLsbD k := by
  have lowSeven : ∀ k < 8, (0x7F : Byte).getLsbD k = decide (k ≠ 7) := by decide
  rw [shiftRightSigned, hi8_join16, BitVec.getLsbD_or, BitVec.getLsbD_and, BitVec.getLsbD_shiftLeft, lowSeven k hk]
  by_cases top : k = 7
  · simp [top]
  · have hbelow : k < 7 := by omega
    simp [top, hbelow]

theorem absoluteValue_toNat : (if arg.msb then 0 - arg else arg).toNat = arg.toInt.natAbs := by
  have hbyte := arg.isLt
  rw [BitVec.toInt_eq_toNat_cond]
  by_cases negative : 128 ≤ arg.toNat
  · rw [if_pos ((msb_iff arg).mpr negative), zero_sub_toNat]
    omega
  · rw [if_neg (mt (msb_iff arg).mp negative)]
    omega

theorem signMagnitude_of_lt_128 (h : arg.toNat < 128) : signMagnitude arg = arg := by
  rw [signMagnitude, if_neg (mt (msb_iff arg).mp (by omega))]

/-- The sign bit over the magnitude of a negative number (44_ext.md R425). -/
theorem signMagnitude_of_128_lt (h : 128 < arg.toNat) : (signMagnitude arg).toNat = 128 + (256 - arg.toNat) := by
  have hbyte := arg.isLt
  have magnitude : ((0 - arg) &&& 0x7F).toNat = 256 - arg.toNat := by
    have hand : ((0 - arg) &&& 0x7F).toNat = (0 - arg).toNat % 128 := and_lowOnes_toNat (0 - arg) (l := 7) (by omega)
    rw [hand, zero_sub_toNat]
    omega
  have signBit : (0x80 : Byte).toNat = 2 ^ 7 * 1 := rfl
  rw [signMagnitude, if_pos ((msb_iff arg).mpr (by omega)), BitVec.toNat_or, magnitude, signBit,
    ← Nat.two_pow_add_eq_or_of_lt (by omega)]

end

/-- Settles O48: the byte operations one by one; every high byte but those of 0xE0 and 0xE5 is `lowOnly`'s. -/
theorem extBitwise : Obligations.ExtBitwise := by
  intro arg
  have negation : (~~~arg).toNat = 255 - arg.toNat := BitVec.toNat_not
  have unstated : ∀ op ∈ [(0xE1 : Byte), 0xE2, 0xE3, 0xE4, 0xE6, 0xE7],
      hi8 (ext arg op) = Config.extHighUnstated op := by
    simp only [List.forall_mem_cons]
    exact ⟨hi8_lowOnly _ _, hi8_lowOnly _ _, hi8_lowOnly _ _, hi8_lowOnly _ _, hi8_lowOnly _ _, hi8_lowOnly _ _,
      List.forall_mem_nil _⟩
  rw [ext_negation, ext_nibbleSwap, ext_mirrorImage, ext_onesCount, ext_arithmeticNegation, ext_shiftRightSigned,
    ext_absoluteValue, ext_signMagnitude, ext_signMagnitude]
  simp only [lo8_lowOnly, lo8_join16, hi8_join16]
  refine ⟨negation, trivial, swapNibbles_toNat arg, fun k hk => mirrorBits_getLsbD arg hk, countOnes_toNat arg,
    zero_sub_toNat arg, lo8_shiftRightSigned_toInt arg, ?_, ?_, absoluteValue_toNat arg, signMagnitude_of_lt_128 arg,
    signMagnitude_of_128_lt arg, rfl, unstated⟩
  · rw [hi8_shiftRightSigned_getLsbD arg (by omega), if_pos rfl]
  · intro k hk
    rw [hi8_shiftRightSigned_getLsbD arg (by omega), if_neg (by omega)]

/-! ### Powers with saturation (44_ext.md R418, R426, R436, R437) -/

theorem satu_toNat {n : Nat} (h : n ≤ 65535) : (satu n).toNat = n := by
  rw [satu, BitVec.toNat_ofNat, Nat.min_eq_right h]
  omega

theorem satu_of_le {n : Nat} (h : 65535 ≤ n) : satu n = 0xFFFF := by
  rw [satu, Nat.min_eq_left h]
  rfl

section
variable (arg : Byte)

theorem ext_square : ext arg 0xE8 = satu (arg.toNat * arg.toNat) := rfl

theorem ext_cube : ext arg 0xE9 = satu (arg.toNat * arg.toNat * arg.toNat) := rfl

theorem ext_signedSquare : ext arg 0xF6 = satu (arg.toInt * arg.toInt).toNat := rfl

theorem ext_signedSquareFractional : ext arg 0xF7 = satu (4 * (arg.toInt * arg.toInt)).toNat := rfl

theorem toInt_natAbs_le : arg.toInt.natAbs ≤ 128 := by
  have hbyte := arg.isLt
  rw [BitVec.toInt_eq_toNat_cond]
  omega

theorem toInt_natAbs_le_of_ne (h : arg ≠ 0x80) : arg.toInt.natAbs ≤ 127 := by
  have hbyte := arg.isLt
  have hne : arg.toNat ≠ 128 := fun e => h (BitVec.eq_of_toNat_eq e)
  rw [BitVec.toInt_eq_toNat_cond]
  omega

theorem square_le : arg.toNat * arg.toNat ≤ 65025 :=
  have hbyte : arg.toNat ≤ 255 := Nat.le_of_lt_succ arg.isLt
  Nat.mul_le_mul hbyte hbyte

end

/-- A signed byte squared is the square of its absolute value. -/
theorem signedSquare_le {x : Int} {m : Nat} (h : x.natAbs ≤ m) : 0 ≤ x * x ∧ x * x ≤ (m * m : Nat) := by
  refine ⟨mul_self_nonneg x, ?_⟩
  rw [← Int.natAbs_mul_self]
  exact_mod_cast Nat.mul_le_mul h h

/-- Settles O49: a product of at most 65535 is delivered as it is, a larger one saturates. -/
theorem extPowers : Obligations.ExtPowers := by
  intro arg
  have hbyte := arg.isLt
  refine ⟨?_, ?_, ?_, ?_, ?_, rfl⟩
  · rw [ext_square, satu_toNat]
    exact (square_le arg).trans (by omega)
  · intro h
    have hcube : arg.toNat * arg.toNat * arg.toNat ≤ 40 * 40 * 40 := Nat.mul_le_mul (Nat.mul_le_mul h h) h
    rw [ext_cube, satu_toNat (by omega)]
  · intro h
    have hcube : 41 * 41 * 41 ≤ arg.toNat * arg.toNat * arg.toNat := Nat.mul_le_mul (Nat.mul_le_mul h h) h
    rw [ext_cube, satu_of_le (by omega)]
  · obtain ⟨hnonneg, hle⟩ := signedSquare_le (toInt_natAbs_le arg)
    rw [ext_signedSquare, satu_toNat (by omega), Int.toNat_of_nonneg hnonneg]
  · intro hmin
    obtain ⟨hnonneg, hle⟩ := signedSquare_le (toInt_natAbs_le_of_ne arg hmin)
    rw [ext_signedSquareFractional, satu_toNat (by omega), Int.toNat_of_nonneg (by omega)]

end Sys2Proof.Machine
end

section
/-! PROOF. The tabulated operations of the math mode of `EXT(arg, OP)` (44_ext.md section 5, 48_ext_tables.md: O50,
O51). A table is data: a bound or a symmetry of its entries is checked entry by entry, and for the logarithms with the powers
cut into factors that evaluate. -/

namespace Sys2Proof.Machine

/-! ### What each selector looks up -/

section
variable (arg : Byte)

theorem ext_squareRoot : ext arg 0xEA = tableEntry tableEA arg := rfl

theorem ext_cubeRoot : ext arg 0xEB = tableEntry tableEB arg := rfl

theorem ext_exponent : ext arg 0xEC = tableEntry tableEC arg := rfl

theorem ext_naturalLog : ext arg 0xED = tableEntry tableED arg := rfl

theorem ext_log2 : ext arg 0xEE = tableEntry tableEE arg := rfl

theorem ext_log10 : ext arg 0xEF = tableEntry tableEF arg := rfl

theorem ext_sine : ext arg 0xF0 = tableEntry tableF0 arg := rfl

theorem ext_inverseSine : ext arg 0xF1 = tableEntry tableF1 arg := rfl

theorem ext_cosine : ext arg 0xF2 = tableEntry tableF2 arg := rfl

theorem ext_inverseCosine {arg : Byte} (h : arg ≠ 0x80) : ext arg 0xF3 = tableEntry tableF3 arg := if_neg h

theorem ext_tangent {arg : Byte} (h : arg ≠ 0x80) : ext arg 0xF4 = tableEntry tableF4 arg := if_neg h

theorem ext_inverseTangent : ext arg 0xF5 = tableEntry tableF5 arg := rfl

theorem ext_squareFractional : ext arg 0xF8 = satu (arg.toNat * arg.toNat) := rfl

theorem ext_cubeFractional : ext arg 0xF9 = satu ((arg.toNat * arg.toNat * arg.toNat + 128) / 256) := rfl

theorem ext_squareRootFractional : ext arg 0xFA = tableEntry tableFA arg := rfl

theorem ext_cubeRootFractional : ext arg 0xFB = tableEntry tableFB arg := rfl

theorem ext_exponentFractional : ext arg 0xFC = tableEntry tableFC arg := rfl

theorem ext_log2Fractional : ext arg 0xFE = tableEntry tableFE arg := rfl

theorem ext_log10Fractional : ext arg 0xFF = tableEntry tableFF arg := rfl

/-- The points outside the domains of inverse cosine and tangent are free values (44_ext.md R441; log 38). -/
theorem ext_undefined_points : ext 0x80 0xF3 = Config.extUndefAcos ∧ ext 0x80 0xF4 = Config.extUndefTan := ⟨rfl, rfl⟩

end

/-! ### Roots (44_ext.md R427, R440) -/

theorem tableEA_nearest : ∀ arg : Byte,
    (2 * (tableEntry tableEA arg).toNat - 1) ^ 2 ≤ 4 * (arg.toNat * 256 ^ 2) ∧
    4 * (arg.toNat * 256 ^ 2) ≤ (2 * (tableEntry tableEA arg).toNat + 1) ^ 2 := by decide

theorem tableFA_nearest : ∀ arg : Byte,
    (2 * (tableEntry tableFA arg).toNat - 1) ^ 2 ≤ 4 * (arg.toNat * 4096 ^ 2) ∧
    4 * (arg.toNat * 4096 ^ 2) ≤ (2 * (tableEntry tableFA arg).toNat + 1) ^ 2 := by decide

theorem tableEB_nearest : ∀ arg : Byte,
    (2 * (tableEntry tableEB arg).toNat - 1) ^ 3 ≤ 8 * (arg.toNat * 256 ^ 3) ∧
    8 * (arg.toNat * 256 ^ 3) ≤ (2 * (tableEntry tableEB arg).toNat + 1) ^ 3 := by decide

theorem tableFB_nearest : ∀ arg : Byte,
    (2 * (tableEntry tableFB arg).toNat - 1) ^ 3 ≤ 8 * (arg.toNat * 2 ^ 40) ∧
    8 * (arg.toNat * 2 ^ 40) ≤ (2 * (tableEntry tableFB arg).toNat + 1) ^ 3 := by decide

/-! ### Fractional powers (44_ext.md R437) -/

theorem ext_squareFractional_toNat (arg : Byte) : (ext arg 0xF8).toNat = arg.toNat ^ 2 := by
  rw [ext_squareFractional, satu_toNat ((square_le arg).trans (by omega)), sq]

/-- The cube over 256, rounded, never saturates. -/
theorem ext_cubeFractional_nearest (arg : Byte) :
    256 * (ext arg 0xF9).toNat ≤ arg.toNat ^ 3 + 128 ∧ arg.toNat ^ 3 ≤ 256 * (ext arg 0xF9).toNat + 128 := by
  have hcube : arg.toNat * arg.toNat * arg.toNat ≤ 65025 * 255 :=
    Nat.mul_le_mul (square_le arg) (Nat.le_of_lt_succ arg.isLt)
  rw [ext_cubeFractional, satu_toNat (by omega), pow_succ, sq]
  omega

/-! ### Logarithms to base 2 and 10 (44_ext.md R429, R439) -/

/-- `b ^ m` with the exponent cut in two, so that no exponent that occurs is large. -/
def powInParts (b m : Nat) : Nat := (b ^ (m / 32)) ^ 32 * b ^ (m % 32)

theorem powInParts_eq (b m : Nat) : powInParts b m = b ^ m := by
  rw [powInParts, ← pow_mul, ← pow_add, Nat.mul_comm, Nat.div_add_mod]

theorem tableEE_nearest : ∀ arg : Byte, 1 ≤ arg.toNat →
    powInParts 2 (2 * (tableEntry tableEE arg).toNat) ≤ 2 * powInParts arg.toNat 512 ∧
    powInParts arg.toNat 512 ≤ powInParts 2 (2 * (tableEntry tableEE arg).toNat + 1) := by decide

theorem tableEF_nearest : ∀ arg : Byte, 1 ≤ arg.toNat →
    powInParts 10 (2 * (tableEntry tableEF arg).toNat) ≤ 10 * powInParts arg.toNat 512 ∧
    powInParts arg.toNat 512 ≤ powInParts 10 (2 * (tableEntry tableEF arg).toNat + 1) := by decide

/-- The logarithm of `arg / 256` is 8 less than that of `arg`. -/
theorem tableFE_toInt : ∀ arg : Byte, 1 ≤ arg.toNat →
    (tableEntry tableFE arg).toInt = (tableEntry tableEE arg).toInt - 2048 := by decide

theorem tableFF_nearest : ∀ arg : Byte, 1 ≤ arg.toNat →
    (tableEntry tableFF arg).toInt ≤ 0 ∧
    powInParts 10 (2 * (tableEntry tableFF arg).toInt.natAbs) * powInParts arg.toNat 512 ≤ 10 * powInParts 256 512 ∧
    powInParts 256 512 ≤ powInParts 10 (2 * (tableEntry tableFF arg).toInt.natAbs + 1) * powInParts arg.toNat 512 := by
  decide

/-- Decision D16 (log 15). -/
theorem ext_log_zero : ∀ op ∈ [(0xED : Byte), 0xEE, 0xEF, 0xFD, 0xFE, 0xFF], ext 0 op = 0x8000 := by decide

/-- Settles O50: the tables entry by entry, the fractional powers by their formulas. -/
theorem extRootsAndLogarithms : Obligations.ExtRootsAndLogarithms := by
  intro arg
  dsimp only
  obtain ⟨hcube, hcube'⟩ := ext_cubeFractional_nearest arg
  rw [ext_squareRoot, ext_squareRootFractional, ext_cubeRoot, ext_cubeRootFractional, ext_log2, ext_log10,
    ext_log2Fractional, ext_log10Fractional]
  refine ⟨tableEA_nearest arg, tableFA_nearest arg, tableEB_nearest arg, tableFB_nearest arg,
    ext_squareFractional_toNat arg, hcube, hcube', fun hpos => ?_, ext_log_zero⟩
  obtain ⟨hlog2, hlog2'⟩ := tableEE_nearest arg hpos
  obtain ⟨hlog10, hlog10'⟩ := tableEF_nearest arg hpos
  obtain ⟨hnonpos, hfrac, hfrac'⟩ := tableFF_nearest arg hpos
  rw [powInParts_eq, powInParts_eq] at hlog2 hlog2' hlog10 hlog10'
  rw [powInParts_eq 10, powInParts_eq arg.toNat, powInParts_eq 256] at hfrac hfrac'
  -- 512 as a variable: the powers are compared as they stand and not evaluated
  generalize 512 = exponent at hlog2 hlog2' hlog10 hlog10' hfrac hfrac' ⊢
  exact ⟨hlog2, hlog2', hlog10, hlog10', tableFE_toInt arg hpos, hnonpos, hfrac, hfrac'⟩

/-! ### Symmetries and growth (44_ext.md R430 to R435, R438) -/

theorem tableF0_odd : ∀ arg : Byte, arg ≠ 64 → arg ≠ 0xC0 →
    tableEntry tableF0 (-arg) = -tableEntry tableF0 arg := by decide

theorem tableF2_even : ∀ arg : Byte, tableEntry tableF2 (-arg) = tableEntry tableF2 arg := by decide

theorem tableF1_odd : ∀ arg : Byte, arg ≠ 0x80 → tableEntry tableF1 (-arg) = -tableEntry tableF1 arg := by decide

theorem tableF4_odd : ∀ arg : Byte, arg ≠ 0x80 → tableEntry tableF4 (-arg) = -tableEntry tableF4 arg := by decide

theorem tableF5_odd : ∀ arg : Byte, arg ≠ 0x80 → tableEntry tableF5 (-arg) = -tableEntry tableF5 arg := by decide

/-- Inverse cosine of s and of -s sum to pi, away from the end points of the domain. -/
theorem tableF3_add_neg : ∀ arg : Byte, arg ≠ 0x80 → arg ≠ 127 → arg ≠ 0x81 →
    tableEntry tableF3 arg + tableEntry tableF3 (-arg) = 0x8000 := by decide

theorem tableFC_grows : ∀ arg : Byte, arg ≠ 255 →
    (tableEntry tableFC arg).toNat ≤ (tableEntry tableFC (arg + 1)).toNat := by decide

theorem tableEC_grows : ∀ arg : Byte, arg ≠ 255 →
    (tableEntry tableEC arg).toNat ≤ (tableEntry tableEC (arg + 1)).toNat := by decide

theorem tableEC_saturated : ∀ arg : Byte, 12 ≤ arg.toNat → tableEntry tableEC arg = 0xFFFF := by decide

/-- The largest logarithms are those of 255 (44_ext.md R429). -/
theorem log_tables_le : ∀ arg : Byte, 1 ≤ arg.toNat →
    (tableEntry tableED arg).toNat ≤ 0x058B ∧ (tableEntry tableEE arg).toNat ≤ 0x07FF ∧
    (tableEntry tableEF arg).toNat ≤ 0x0268 := by decide

/-- Settles O51: the named values are entries of the tables, the symmetries hold entry by entry; inverse cosine and
tangent are tables except at their free points. -/
theorem extTranscendental : Obligations.ExtTranscendental := by
  have neg_ne : ∀ {arg : Byte}, arg ≠ 0x80 → -arg ≠ 0x80 := fun h e => h (neg_eq_iff_eq_neg.mp e)
  unfold Obligations.ExtTranscendental
  simp only [ext_exponent, ext_naturalLog, ext_log2, ext_log10, ext_sine, ext_inverseSine, ext_cosine,
    ext_inverseTangent, ext_exponentFractional]
  refine ⟨⟨by decide, by decide, tableEC_saturated⟩,
    -- the named values of the trigonometric operations and of the fractional exponential
    by decide, by decide, by decide, by decide, by decide,
    ⟨by decide, by decide, by decide, log_tables_le⟩,
    -- those of the fractional logarithms
    by decide,
    tableF0_odd, tableF2_even, ?_, ?_, fun arg h => ⟨tableFC_grows arg h, tableEC_grows arg h⟩, ext_undefined_points⟩
  · intro arg h
    rw [ext_tangent h, ext_tangent (neg_ne h)]
    exact ⟨tableF1_odd arg h, tableF4_odd arg h, tableF5_odd arg h⟩
  · intro arg h hlast hfirst
    rw [ext_inverseCosine h, ext_inverseCosine (neg_ne h)]
    exact tableF3_add_neg arg h hlast hfirst

end Sys2Proof.Machine
end

section
/-! PROOF. 16-bit arithmetic on DP, SP and CD (45_addr16.md: O52, O53, O54): a pass of the 8-bit ALU in integers with its
carry as a digit, two chained passes as one 16-bit operation, and what an instruction of that shape does. -/

namespace Sys2Proof.Machine

/-! ### A signed word from its bytes -/

/-- The high byte carries the sign. -/
theorem word_toInt_eq_hi_lo (w : Word) : w.toInt = (hi8 w).toInt * 256 + (lo8 w).toNat := by
  have hlo := (lo8 w).isLt
  have hw := word_eq_hi_lo w
  rw [BitVec.toInt_eq_toNat_cond, BitVec.toInt_eq_toNat_cond]
  split <;> split <;> omega

/-! ### One pass, with the carry as a digit -/

section
variable {op : AluOp} {arg1 x r f : Byte} {cin : Bool}

/-- The carry out of an addition weighs 256 (42_alu8.md R361, R362). -/
theorem AluDoes.add_exact (h : AluDoes .ADD arg1 x cin r f) :
    r.toNat + 256 * (flagOf f .C).toNat = arg1.toNat + x.toNat + cin.toNat := by
  obtain ⟨hr, hf⟩ := h
  have hcarry := hf.c
  rw [← Bool.toNat_eq_one] at hcarry
  have := arg1.isLt; have := x.isLt; have := cin.toNat_le; have := (flagOf f .C).toNat_le
  omega

/-- The borrow of a subtraction weighs 256 (42_alu8.md R361, R362, decision D2). -/
theorem AluDoes.sub_exact (h : AluDoes .SUB arg1 x cin r f) :
    arg1.toNat + 256 * (flagOf f .C).toNat = r.toNat + x.toNat + cin.toNat := by
  obtain ⟨hr, hf⟩ := h
  have hborrow := hf.c
  rw [← Bool.toNat_eq_one] at hborrow
  have := arg1.isLt; have := x.isLt; have := cin.toNat_le; have := (flagOf f .C).toNat_le
  omega

/-- Whatever the operation, Z and NEG describe the result (42_alu8.md R365, decisions D3, D4). -/
theorem AluDoes.z_neg (h : AluDoes op arg1 x cin r f) :
    (flagOf f .Z = true ↔ r.toNat = 0) ∧ (flagOf f .NEG = true ↔ 128 ≤ r.toNat) := by
  cases op <;> exact ⟨h.2.z, h.2.neg⟩

end

/-! ### Two chained passes as a 16-bit operation (45_addr16.md R380, R384) -/

/-- `r` and `f` are the result and the flags of two chained passes on the words `w` and `x`: the low bytes with carry-in
0, the high bytes with the carry of the low ones; `f` is that of the high pass. -/
def PairDoes (op : AluOp) (w x r : Word) (f : Byte) : Prop :=
  ∃ fl, AluDoes op (lo8 w) (lo8 x) false (lo8 r) fl ∧ AluDoes op (hi8 w) (hi8 x) (flagOf fl .C) (hi8 r) f

/-- C, OV, NEG and Z of `t` after a 16-bit operation on CD with the given carry and exact signed result. -/
def PairFlagsAre (t : State) (carry : Prop) (exact : Int) : Prop :=
  (t.flag .C = true ↔ carry) ∧ (t.flag .OV = true ↔ exact < -32768 ∨ 32767 < exact) ∧
  (t.flag .NEG = true ↔ t.cd.toInt < 0) ∧ (t.flag .Z = true ↔ t.d = 0)

namespace PairDoes
variable {op : AluOp} {w x r : Word} {f : Byte}

/-- The carry out of bit 15 weighs 65536. -/
theorem add_exact (h : PairDoes .ADD w x r f) : r.toNat + 65536 * (flagOf f .C).toNat = w.toNat + x.toNat := by
  obtain ⟨fl, hlow, hhigh⟩ := h
  have := hlow.add_exact; have := hhigh.add_exact
  have := word_eq_hi_lo w; have := word_eq_hi_lo x; have := word_eq_hi_lo r
  simp only [Bool.toNat_false] at *
  omega

/-- The 16-bit borrow weighs 65536. -/
theorem sub_exact (h : PairDoes .SUB w x r f) : w.toNat + 65536 * (flagOf f .C).toNat = r.toNat + x.toNat := by
  obtain ⟨fl, hlow, hhigh⟩ := h
  have := hlow.sub_exact; have := hhigh.sub_exact
  have := word_eq_hi_lo w; have := word_eq_hi_lo x; have := word_eq_hi_lo r
  simp only [Bool.toNat_false] at *
  omega

theorem add_toNat (h : PairDoes .ADD w x r f) : (r.toNat : Int) = ((w.toNat : Int) + x.toNat) % 65536 := by
  have := h.add_exact; have := r.isLt
  omega

theorem sub_toNat (h : PairDoes .SUB w x r f) : (r.toNat : Int) = ((w.toNat : Int) - x.toNat) % 65536 := by
  have := h.sub_exact; have := r.isLt
  omega

theorem add_carry (h : PairDoes .ADD w x r f) : flagOf f .C = true ↔ 65536 ≤ w.toNat + x.toNat := by
  have := h.add_exact; have := r.isLt
  rw [← Bool.toNat_eq_one]
  omega

theorem sub_borrow (h : PairDoes .SUB w x r f) : flagOf f .C = true ↔ w.toNat < x.toNat := by
  have := h.sub_exact; have := r.isLt; have := w.isLt
  rw [← Bool.toNat_eq_one]
  omega

/-- The 16-bit sum is 256 times the signed sum of the high pass, plus a byte: the two leave their ranges together. -/
theorem add_overflow (h : PairDoes .ADD w x r f) :
    flagOf f .OV = true ↔ w.toInt + x.toInt < -32768 ∨ 32767 < w.toInt + x.toInt := by
  obtain ⟨fl, hlow, -, hflags⟩ := h
  have := hlow.add_exact; have := (lo8 r).isLt
  rw [hflags.ov, word_toInt_eq_hi_lo w, word_toInt_eq_hi_lo x]
  simp only [Bool.toNat_false] at *
  omega

/-- The 16-bit difference is 256 times the signed difference of the high pass, plus a byte. -/
theorem sub_overflow (h : PairDoes .SUB w x r f) :
    flagOf f .OV = true ↔ w.toInt - x.toInt < -32768 ∨ 32767 < w.toInt - x.toInt := by
  obtain ⟨fl, hlow, -, hflags⟩ := h
  have := hlow.sub_exact; have := (lo8 r).isLt
  rw [hflags.ov, word_toInt_eq_hi_lo w, word_toInt_eq_hi_lo x]
  simp only [Bool.toNat_false] at *
  omega

theorem neg_iff (h : PairDoes op w x r f) : flagOf f .NEG = true ↔ r.toInt < 0 := by
  obtain ⟨fl, -, hhigh⟩ := h
  rw [hhigh.z_neg.2, ← msb_iff, BitVec.msb_eq_toInt, decide_eq_true_eq, word_toInt_eq_hi_lo r]
  have := (lo8 r).isLt
  omega

theorem z_iff (h : PairDoes op w x r f) : flagOf f .Z = true ↔ hi8 r = 0 := by
  obtain ⟨fl, -, hhigh⟩ := h
  rw [hhigh.z_neg.1, ← BitVec.toNat_inj]
  rfl

end PairDoes

/-! ### What a CD form does -/

theorem aluPair_pairDoes (op : AluOp) (lo hi : Byte) (s : State) :
    PairDoes op s.cd (join16 hi lo) (aluPair op lo hi s).cd (aluPair op lo hi s).f := by
  simp only [PairDoes, State.cd, lo8_join16, hi8_join16]
  exact ⟨_, alu_does op s.c lo false, alu_does op s.d hi _⟩

/-- The statement of O53 on one instruction: two chained passes that leave `cd` modulo 65536 in CD. -/
def PairInto (i : Instr) (op : AluOp) (lo hi : Byte) (cd : Int) (s : State) : Prop :=
  ∃ rl fl rh fh, AluDoes op s.c lo false rl fl ∧ AluDoes op s.d hi (flagOf fl .C) rh fh ∧
    (rh.toNat * 256 + rl.toNat : Int) = cd % 65536 ∧ exec i s = .next { s with c := rl, d := rh, f := fh }

section
variable {i : Instr} {op : AluOp} {lo hi : Byte} {s t : State}

theorem pairInto_of_exec {cd : Int} (h : exec i s = .next (aluPair op lo hi s))
    (hcd : ((aluPair op lo hi s).cd.toNat : Int) = cd % 65536) : PairInto i op lo hi cd s := by
  rw [cd_toNat] at hcd
  exact ⟨_, _, _, _, alu_does op s.c lo false, alu_does op s.d hi _, by exact_mod_cast hcd, h⟩

theorem pairInto_add_of_exec {x : Word} (h : exec i s = .next (aluPair .ADD lo hi s)) (hx : join16 hi lo = x) :
    PairInto i .ADD lo hi (s.cd.toNat + x.toNat) s :=
  pairInto_of_exec h (hx ▸ (aluPair_pairDoes .ADD lo hi s).add_toNat)

theorem pairInto_sub_of_exec {x : Word} (h : exec i s = .next (aluPair .SUB lo hi s)) (hx : join16 hi lo = x) :
    PairInto i .SUB lo hi (s.cd.toNat - x.toNat) s :=
  pairInto_of_exec h (hx ▸ (aluPair_pairDoes .SUB lo hi s).sub_toNat)

/-- NEG and Z come out for every operation, so C and OV are what is left to show. -/
theorem pairFlagsAre_of_exec {carry : Prop} {exact : Int} (h : exec i s = .next (aluPair op lo hi s))
    (ht : exec i s = .next t) (hc : flagOf (aluPair op lo hi s).f .C = true ↔ carry)
    (hov : flagOf (aluPair op lo hi s).f .OV = true ↔ exact < -32768 ∨ 32767 < exact) :
    PairFlagsAre t carry exact := by
  obtain rfl : aluPair op lo hi s = t := Host.Outcome.next.inj (h.symm.trans ht)
  have hdoes := aluPair_pairDoes op lo hi s
  have hz := hdoes.z_iff
  rw [State.cd, hi8_join16] at hz
  exact ⟨hc, hov, hdoes.neg_iff, hz⟩

theorem pairFlagsAre_add_of_exec {x : Word} (h : exec i s = .next (aluPair .ADD lo hi s)) (hx : join16 hi lo = x)
    (ht : exec i s = .next t) : PairFlagsAre t (65536 ≤ s.cd.toNat + x.toNat) (s.cd.toInt + x.toInt) :=
  have hdoes := hx ▸ aluPair_pairDoes .ADD lo hi s
  pairFlagsAre_of_exec h ht hdoes.add_carry hdoes.add_overflow

theorem pairFlagsAre_sub_of_exec {x : Word} (h : exec i s = .next (aluPair .SUB lo hi s)) (hx : join16 hi lo = x)
    (ht : exec i s = .next t) : PairFlagsAre t (s.cd.toNat < x.toNat) (s.cd.toInt - x.toInt) :=
  have hdoes := hx ▸ aluPair_pairDoes .SUB lo hi s
  pairFlagsAre_of_exec h ht hdoes.sub_borrow hdoes.sub_overflow

end

/-! ### The steps of DP and SP -/

theorem stepDp_eq (k : Word) (s : State) : stepDp k s = { s with dp := padd s.dp k } := rfl

theorem stepSp_eq (k : Word) (s : State) : stepSp k s = { s with sp := padd s.sp k } := rfl

/-- The step that `DEC DP` is modelled with (45_addr16.md R259). -/
theorem ofInt_neg_one_eq : BitVec.ofInt 16 (-1) = (0xFFFF : Word) := by decide

/-! ### The obligations -/

/-- Settles O53: each arm is `aluPair` of the two bytes of its operand; the words of the general rule are written out as
their bytes. -/
theorem pairArithmetic : Obligations.PairArithmetic := by
  intro s nn
  have addAB := pairInto_add_of_exec (i := .addCD_AB) (s := s) rfl rfl
  have subAB := pairInto_sub_of_exec (i := .subCD_AB) (s := s) rfl rfl
  have addNN := pairInto_add_of_exec (i := .addCD_nn nn) (s := s) rfl (join16_hi8_lo8 nn)
  have subNN := pairInto_sub_of_exec (i := .subCD_nn nn) (s := s) rfl (join16_hi8_lo8 nn)
  simp only [cd_toNat, join16_toNat, Nat.cast_add, Nat.cast_mul, Nat.cast_ofNat] at addAB subAB addNN subNN
  exact ⟨addAB, subAB, addNN, subNN⟩

/-- Settles O54: each arm is `aluPair`, whose high pass leaves the flags of the whole 16-bit operation in F. -/
theorem pairFlags : Obligations.PairFlags := fun _ _ nn =>
  ⟨pairFlagsAre_add_of_exec rfl rfl, pairFlagsAre_sub_of_exec rfl rfl,
   pairFlagsAre_add_of_exec rfl (join16_hi8_lo8 nn), pairFlagsAre_sub_of_exec rfl (join16_hi8_lo8 nn)⟩

/-- Settles O52: each arm is one step of its register inside the page. -/
theorem addressSteps : Obligations.AddressSteps := fun s d =>
  ⟨exec_eq_next rfl (stepDp_eq 1 s),
   exec_eq_next rfl (ofInt_neg_one_eq ▸ stepDp_eq 0xFFFF s),
   exec_eq_next rfl (stepDp_eq (sext16 s.a) s),
   exec_eq_next rfl (stepDp_eq (sext16 d) s),
   exec_eq_next rfl (stepSp_eq (sext16 s.a) s),
   exec_eq_next rfl (stepSp_eq (sext16 d) s)⟩

end Sys2Proof.Machine
end

section
/-! PROOF. Control transfer (46_control.md: O22, O55, O56, O57): jumps taken and not taken, calls as pushes, returns as
pops, and a return after a call onto RAM. -/

namespace Sys2Proof.Machine

/-! ### Jumps -/

theorem setPc_eq (s : State) (v : Word) : s.setPc v = { s with pc := v } := rfl

@[simp] theorem jumpIf_true (target : Word) (s : State) : jumpIf true target s = { s with pc := target } := rfl

@[simp] theorem jumpIf_false (target : Word) (s : State) : jumpIf false target s = s := rfl

section
variable {i : Instr} {s : State} {flag : Bool} {target : Word}

/-- A jump on a flag that is 1 (46_control.md R513). -/
theorem jumpsIf_set_of_exec (h : exec i s = .next (jumpIf flag target s)) : JumpsIf i (flag = true) target s := by
  cases flag with
  | true => exact ⟨fun _ => h, fun hne => absurd rfl hne⟩
  | false => exact ⟨fun he => absurd he Bool.false_ne_true, fun _ => h⟩

/-- A jump on a flag that is 0 (46_control.md R513). -/
theorem jumpsIf_clear_of_exec (h : exec i s = .next (jumpIf (!flag) target s)) : JumpsIf i (flag = false) target s := by
  rw [← Bool.not_eq_true']
  exact jumpsIf_set_of_exec h

end

/-- `DJNZ` tests B after the decrement; its target is counted from the PC that the decrement leaves alone (46_control.md
R516, decision D12: log 11). -/
theorem exec_djnz (s : State) (d : Byte) :
    exec (.djnz_d d) s = .next (jumpIf (s.b - 1 != 0) (padd s.pc (sext16 d)) { s with b := s.b - 1 }) := rfl

theorem exec_djnz_of_eq {s : State} {d : Byte} (h : s.b = 1) : exec (.djnz_d d) s = .next { s with b := 0 } := by
  have hzero : s.b - 1 = 0 := sub_eq_zero.mpr h
  rw [exec_djnz, hzero, bne_self_eq_false, jumpIf_false]

theorem exec_djnz_of_ne {s : State} {d : Byte} (h : s.b ≠ 1) :
    exec (.djnz_d d) s = .next { s with b := s.b - 1, pc := padd s.pc (sext16 d) } := by
  have hne : (s.b - 1 != 0) = true := bne_iff_ne.mpr (sub_ne_zero.mpr h)
  rw [exec_djnz, hne, jumpIf_true]

/-! ### Calls and returns -/

/-- PC is loaded after the push, which pushes the PC from before (46_control.md R514, decision D36: log 37). -/
theorem callsTo_of_exec {i : Instr} {s : State} {target : Word} (h : exec i s = .next (callTo target s)) :
    CallsTo i s target :=
  ⟨_, push16_pushes s s.pc, h⟩

/-- A return pops PC (46_control.md R515). -/
theorem returnOp_pops (s : State) : ∃ w t, PopsWord s w t ∧ returnOp s = { t with pc := w } :=
  pop16Then_pops s fun w t => t.setPc w

theorem exec_ret_pops (s : State) : ∃ w t, PopsWord s w t ∧ exec .ret s = .next { t with pc := w } := by
  obtain ⟨w, t, hpops, heq⟩ := returnOp_pops s
  exact ⟨w, t, hpops, exec_eq_next rfl heq⟩

theorem returnFromInterrupt_eq (s : State) :
    returnFromInterrupt s = { returnOp s with ie := true, noSample := true } := rfl

theorem exec_reti_pops (s : State) :
    ∃ w t, PopsWord s w t ∧ exec .reti s = .next { t with pc := w, ie := true, noSample := true } := by
  obtain ⟨w, t, hpops, heq⟩ := returnOp_pops s
  exact ⟨w, t, hpops, exec_eq_next rfl (by rw [returnFromInterrupt_eq, heq])⟩

/-! ### A return after a push onto RAM -/

section
variable {s : State} (w : Word)

/-- The two stack bytes of `StackIsRam`, named from SP. -/
theorem stackIsRam_two_iff :
    StackIsRam s (padd s.sp 0xFFFE) 2 ↔ s.kindAt (padd s.sp 0xFFFE) = .ram ∧ s.kindAt (padd s.sp 0xFFFF) = .ram := by
  have hup : padd (padd s.sp 0xFFFE) 1 = padd s.sp 0xFFFF := padd_padd s.sp 0xFFFE 1
  simp only [StackIsRam, hup, and_true]

/-- A 16-bit push onto RAM changes SP and two bytes of memory (41_stack.md R358). -/
theorem push16_ram (h : StackIsRam s (padd s.sp 0xFFFE) 2) :
    s.push16 w = { s with
      sp := padd s.sp 0xFFFE
      mem := (s.mem.write (padd s.sp 0xFFFF) (hi8 w)).write (padd s.sp 0xFFFE) (lo8 w) } := by
  obtain ⟨hlow, hhigh⟩ := stackIsRam_two_iff.mp h
  have hdown : padd (padd s.sp 0xFFFF) 0xFFFF = padd s.sp 0xFFFE := padd_padd s.sp 0xFFFF 0xFFFF
  have hsecond : (s.push8 (hi8 w)).kindAt (padd (s.push8 (hi8 w)).sp 0xFFFF) = .ram := by
    rw [push8_sp, hdown, State.kindAt, push8_memMap]
    exact hlow
  rw [State.push16, push8_ram _ _ hsecond, push8_ram s _ hhigh]
  simp only [hdown]

/-- A 16-bit push onto RAM leaves every other address as it was. -/
theorem stored_push16_ne {x : Word} (h : StackIsRam s (padd s.sp 0xFFFE) 2) (hhigh : x ≠ padd s.sp 0xFFFF)
    (hlow : x ≠ padd s.sp 0xFFFE) : (s.push16 w).stored x = s.stored x := by
  rw [push16_ram w h]
  exact (stored_store_ne (s.store _ _) (lo8 w) hlow).trans (stored_store_ne s (hi8 w) hhigh)

/-- A 16-bit push onto RAM leaves the word on the stack, its low byte lowest. -/
theorem stackHolds_push16 (h : StackIsRam s (padd s.sp 0xFFFE) 2) : StackHolds (s.push16 w) [lo8 w, hi8 w] := by
  have htwo : (0xFFFE : Word) = -BitVec.ofNat 16 2 := by decide
  rw [htwo] at h
  exact stackHolds_pushBytes (bytes := [lo8 w, hi8 w]) (by simp) h

end

/-- A return from a stack whose two lowest bytes hold a word goes to that word. -/
theorem returnOp_of_stackHolds {u : State} {w : Word} (h : StackHolds u [lo8 w, hi8 w]) :
    returnOp u = { u with pc := w, sp := padd u.sp 2 } := by
  rw [returnOp, h.pop16Then, join16_hi8_lo8]
  rfl

/-- A return after a call onto RAM undoes the call but for the stack bytes that it leaves in memory. -/
theorem returnOp_callTo {s : State} (target : Word) (h : StackIsRam s (padd s.sp 0xFFFE) 2) :
    returnOp (callTo target s) = { s with mem := (s.push16 s.pc).mem } := by
  have hheld : StackHolds (callTo target s) [lo8 s.pc, hi8 s.pc] := (stackHolds_push16 s.pc h).congr rfl rfl rfl
  have hback : padd (padd s.sp 0xFFFE) 2 = s.sp := (padd_padd s.sp 0xFFFE 2).trans (padd_zero s.sp)
  rw [returnOp_of_stackHolds hheld, callTo_sp, hback, callTo, setPc_eq, push16_ram s.pc h]

/-! ### The obligations -/

/-- Settles O22: the call leaves the two bytes of PC on the stack, and the return takes them back. -/
theorem callThenReturn : Obligations.CallThenReturn := by
  intro s nn hram
  have hmem : (returnOp (callTo nn s)).mem = (s.push16 s.pc).mem := by rw [returnOp_callTo nn hram]
  refine ⟨callTo nn s, returnOp (callTo nn s), rfl, rfl, rfl, ?_, fun x hhigh hlow => ?_⟩
  · rw [hmem, returnOp_callTo nn hram]
  · calc (returnOp (callTo nn s)).stored x = (s.push16 s.pc).stored x := by rw [State.stored, hmem, State.stored]
      _ = s.stored x := stored_push16_ne s.pc hram hhigh hlow

/-- Settles O55: each arm loads PC, or is `jumpIf` on the bit of F that holds its flag. -/
theorem absoluteJumps : Obligations.AbsoluteJumps := fun s d nn =>
  ⟨-- JP nn, JP DP + d
   exec_eq_next rfl (setPc_eq s nn), exec_eq_next rfl (setPc_eq s (padd s.dp (sext16 d))),
   -- JP cc, nn
   jumpsIf_set_of_exec rfl, jumpsIf_set_of_exec rfl, jumpsIf_set_of_exec rfl, jumpsIf_set_of_exec rfl,
   jumpsIf_set_of_exec rfl, jumpsIf_set_of_exec rfl, jumpsIf_set_of_exec rfl, jumpsIf_set_of_exec rfl⟩

/-- Settles O56: each arm loads PC, or is `jumpIf` on the bit of F that holds its flag, or on its negation; `DJNZ` is
`jumpIf` on the new B. -/
theorem relativeJumps : Obligations.RelativeJumps := fun s d =>
  ⟨-- JR d
   exec_eq_next rfl (setPc_eq s (padd s.pc (sext16 d))),
   -- JR cc, d
   jumpsIf_set_of_exec rfl, jumpsIf_set_of_exec rfl, jumpsIf_set_of_exec rfl, jumpsIf_set_of_exec rfl,
   jumpsIf_set_of_exec rfl, jumpsIf_set_of_exec rfl, jumpsIf_set_of_exec rfl, jumpsIf_set_of_exec rfl,
   -- JR Ncc, d
   jumpsIf_clear_of_exec rfl, jumpsIf_clear_of_exec rfl, jumpsIf_clear_of_exec rfl, jumpsIf_clear_of_exec rfl,
   jumpsIf_clear_of_exec rfl, jumpsIf_clear_of_exec rfl, jumpsIf_clear_of_exec rfl, jumpsIf_clear_of_exec rfl,
   -- DJNZ d
   exec_djnz_of_eq, exec_djnz_of_ne⟩

/-- Settles O57: each call is `callTo` its target, and each return pops PC. -/
theorem callsAndReturns : Obligations.CallsAndReturns := fun s _ _ =>
  ⟨-- CALL nn, CALLR d, CALL DP + d
   callsTo_of_exec rfl, callsTo_of_exec rfl, callsTo_of_exec rfl,
   -- RET, RETI
   exec_ret_pops s, exec_reti_pops s⟩

end Sys2Proof.Machine
end

section
/-! PROOF. Input and output (47_io.md: O58, O59, O60): each arm of `exec` is one of the shared operations at IO(s), the
block forms with a step of DP after it. -/

namespace Sys2Proof.Machine

/-! ### The shapes that only the I/O instructions have -/

section
variable {i : Instr} {s : State}

/-- A byte copied and DP stepped afterwards: the copy leaves DP alone, so the step starts from the old DP (47_io.md
R527). -/
theorem copies_of_exec_stepDp {source destination k : Word}
    (h : exec i s = .next (stepDp k (copyByte source destination s))) :
    Copies i s source destination (padd s.dp k) := by
  rw [stepDp, copyByte_dp] at h
  exact copies_of_exec h

/-- As `aluOnto_of_exec`, with A as the first input and the byte read as the second (47_io.md R523). -/
theorem aluOntoFromA_of_exec {op : AluOp} {ea : Word}
    (h : exec i s = .next (updateMem ea (fun m => alu op s.a m false) s)) : AluOntoFromA i op ea s :=
  ⟨_, _, _, _, _, memRead_reads s ea, alu_does op s.a _ false, memWrite_writes _ ea _, h⟩

/-- Two instructions that update memory in the same way do the same where their addresses are equal. -/
theorem exec_eq_of_updateMem {j : Instr} {k : Byte → Byte × Byte} {x y : Word} (hi : exec i s = .next (updateMem x k s))
    (hj : exec j s = .next (updateMem y k s)) (heq : y = x) : exec i s = exec j s := by
  rw [hi, hj, heq]

end

/-! ### The obligations -/

/-- Settles O58: each arm is `memWrite`, `loadFrom` or `copyByte` at IO(s); the block forms step DP after the copy. -/
theorem inputOutput : Obligations.InputOutput := fun _ _ _ =>
  ⟨-- OUT (s), r; OUT (s), n
   stores_of_exec rfl, stores_of_exec rfl, stores_of_exec rfl, stores_of_exec rfl, stores_of_exec rfl,
   -- IN r, (s)
   loads_of_exec rfl, loads_of_exec rfl, loads_of_exec rfl, loads_of_exec rfl,
   -- OUT, OUTI, OUTD (s), (DP)
   copies_of_exec_dp_kept rfl, copies_of_exec_stepDp rfl, copies_of_exec_stepDp rfl,
   -- IN, INI, IND (DP), (s)
   copies_of_exec_dp_kept rfl, copies_of_exec_stepDp rfl, copies_of_exec_stepDp rfl⟩

/-- Settles O59: each arm is `updateMem` at IO(s); in the forms with A the byte read is the second input. -/
theorem inputOutputUpdate : Obligations.InputOutputUpdate := fun _ _ _ =>
  ⟨-- INCIO, DECIO
   aluOnto_of_exec rfl, aluOnto_of_exec rfl,
   -- ANDIO, ORIO, XORIO (s), A and (s), n
   aluOntoFromA_of_exec rfl, aluOnto_of_exec rfl, aluOntoFromA_of_exec rfl, aluOnto_of_exec rfl,
   aluOntoFromA_of_exec rfl, aluOnto_of_exec rfl⟩

/-- Settles O60: both arms are the same operation at the same address; for the forms with (DP) the address of the one
is IO(s) and that of the other is DP. -/
theorem inputOutputIsMemory : Obligations.InputOutputIsMemory := fun _ _ _ =>
  ⟨-- OUT (s), r as LD (nn), r
   rfl, rfl, rfl, rfl,
   -- IN r, (s) as LD r, (nn)
   rfl, rfl, rfl, rfl,
   -- OUT (s), n as LD (nn), n; INCIO and DECIO as INC (nn) and DEC (nn)
   rfl, rfl, rfl,
   -- ANDIO, ORIO, XORIO (s), n as AND, OR, XOR (DP), n
   fun hdp => ⟨exec_eq_of_updateMem rfl rfl hdp, exec_eq_of_updateMem rfl rfl hdp, exec_eq_of_updateMem rfl rfl hdp⟩⟩

end Sys2Proof.Machine
end

section
/-! PROOF. The step that executes an instruction (60_exceptions.md R450, R451; 70_reset_and_hazards.md R490, R491: O5,
O6, O7, O11): the bytes that the fetch takes from PC on are always those of one instruction, which is executed after
the fetch. -/

namespace Sys2Proof.Machine

/-! ### The fetch takes exactly one instruction -/

/-- An instruction's bytes are its opcode and as many operand bytes as the fetch takes for that opcode. -/
theorem encode_eq_cons (i : Instr) : ∃ ops, encode i = opcodeOf i :: ops ∧ ops.length = operandCount (opcodeOf i) := by
  obtain ⟨row, ops, henc, hrow, m⟩ := encode_made i
  have hformat : row.format = formatOf (opcodeOf i) := by simpa [hrow] using rowOf_format (opcodeOf i)
  have hcount := operandCount_eq (opcodeOf i)
  rw [← hformat, ← m.length_eq] at hcount
  exact ⟨ops, henc, (Nat.succ.inj hcount).symm⟩

/-- The fetch ends with the last byte of the instruction that lies at PC. -/
theorem fetchInstr_of_fetchesBytes {s t : State} {i : Instr} (h : FetchesBytes s (encode i) t) :
    fetchInstr s = (encode i, t) := by
  obtain ⟨ops, henc, hlength⟩ := encode_eq_cons i
  rw [henc] at h ⊢
  exact fetchInstr_eq hlength h

theorem fetchInstr_bytes (s : State) :
    (fetchInstr s).1 = (fetchBytes (operandCount (fetchByte s).1 + 1) s).1 := rfl

/-- Whatever lies at PC, the bytes fetched are all the bytes of some instruction (30_encoding.md R75). -/
theorem fetchInstr_eq_encode (s : State) : ∃ i, (fetchInstr s).1 = encode i := by
  obtain ⟨i, rest, hdecode⟩ := decode_fetchInstr s
  have hbytes : (fetchInstr s).1 = encode i ++ rest := encodeDecode _ _ _ hdecode
  obtain ⟨ops, henc, hlength⟩ := encode_eq_cons i
  have hopcode : (fetchByte s).1 = opcodeOf i := by
    rw [henc] at hbytes
    exact (List.cons.inj hbytes).1
  have htotal := congrArg List.length hbytes
  rw [fetchInstr_bytes, fetchBytes_length, hopcode, henc, List.length_append, List.length_cons, hlength] at htotal
  have hrest : rest = [] := List.length_eq_zero_iff.mp (by omega)
  exact ⟨i, by rw [hbytes, hrest, List.append_nil]⟩

/-- From every state the bytes of some instruction are fetched. -/
theorem exists_fetchesBytes (s : State) : ∃ i t, FetchesBytes s (encode i) t := by
  obtain ⟨i, hbytes⟩ := fetchInstr_eq_encode s
  have hlength : (encode i).length = operandCount (fetchByte s).1 + 1 := by
    rw [← hbytes, fetchInstr_bytes, fetchBytes_length]
  refine ⟨i, (fetchInstr s).2, (fetchesBytes_iff _ _ _).mpr ?_⟩
  rw [hlength, ← hbytes, fetchInstr_bytes, fetchInstr_state]

/-- The instruction that is fetched is executed after the fetch, and its clocks are counted. -/
theorem runInstruction_of_fetchesBytes {s t : State} {i : Instr} (h : FetchesBytes s (encode i) t) :
    runInstruction s = mapNext (fun u => u.addCycles (clocks i)) (exec i t) := by
  simp only [runInstruction, fetchInstr_of_fetchesBytes h, decode_of_encode rfl]

/-- Running the instruction at PC always answers a next state: that of the instruction fetched, with its clocks
counted. -/
theorem runInstruction_next (s : State) :
    ∃ i t u, FetchesBytes s (encode i) t ∧ exec i t = .next u ∧ runInstruction s = .next (u.addCycles (clocks i)) := by
  obtain ⟨i, t, hfetch⟩ := exists_fetchesBytes s
  obtain ⟨u, hexec, -⟩ := exec_updates i t
  exact ⟨i, t, u, hfetch, hexec, by rw [runInstruction_of_fetchesBytes hfetch, hexec, mapNext]⟩

/-- Settles O5: the boundary leads to the instruction, and the fetch takes its bytes. -/
theorem stepRunsDecodedInstruction : Obligations.StepRunsDecodedInstruction := fun _ _ _ hexecutes _ hfetch =>
  (step_execute hexecutes).trans (runInstruction_of_fetchesBytes hfetch)

/-! ### Fetching from RAM or ROM -/

/-- The bytes from PC on, addresses modulo 65536, are RAM or ROM and hold `bytes`. -/
def CodeHolds (s : State) (bytes : List Byte) : Prop :=
  ∀ k, (h : k < bytes.length) →
    (s.kindAt (s.pc + BitVec.ofNat 16 k) = .ram ∨ s.kindAt (s.pc + BitVec.ofNat 16 k) = .rom) ∧
    s.stored (s.pc + BitVec.ofNat 16 k) = bytes[k]

theorem add_ofNat_zero (x : Word) : x + BitVec.ofNat 16 0 = x := BitVec.add_zero x

theorem add_one_add_ofNat (x : Word) (n : Nat) : x + 1 + BitVec.ofNat 16 n = x + BitVec.ofNat 16 (n + 1) := by
  bv_omega

namespace CodeHolds

variable {s : State} {v : Byte} {bytes : List Byte}

/-- The byte at PC is read without any other effect. -/
theorem head (h : CodeHolds s (v :: bytes)) : ReadsByte s s.pc v s := by
  obtain ⟨hkind, hstored⟩ := h 0 (Nat.zero_lt_succ _)
  rw [add_ofNat_zero] at hkind hstored
  rw [readsByte_iff, memRead_stored s s.pc hkind]
  exact ⟨hstored.symm, rfl⟩

/-- The other bytes lie from the next PC on. -/
theorem tail (h : CodeHolds s (v :: bytes)) : CodeHolds { s with pc := s.pc + 1 } bytes := by
  intro k hk
  simp only [add_one_add_ofNat]
  exact h (k + 1) (Nat.succ_lt_succ hk)

/-- Fetching code from RAM or ROM changes PC only. -/
theorem fetchesBytes (h : CodeHolds s bytes) :
    FetchesBytes s bytes { s with pc := s.pc + BitVec.ofNat 16 bytes.length } := by
  induction bytes generalizing s with
  | nil =>
    rw [List.length_nil, add_ofNat_zero]
    rfl
  | cons v rest ih =>
    have hrest := ih h.tail
    rw [add_one_add_ofNat] at hrest
    exact ⟨s, h.head, hrest⟩

end CodeHolds

/-- Settles O6: the boundary leaves PC, memory and the memory map alone, so the code is fetched as it is stored. -/
theorem stepRunsInstructionInMemory : Obligations.StepRunsInstructionInMemory := by
  intro s i hexecutes hstored
  have hcode : CodeHolds (afterBoundary s) (encode i) := hstored
  exact (step_execute hexecutes).trans (runInstruction_of_fetchesBytes hcode.fetchesBytes)

/-! ### Every step goes on -/

/-- Settles O7: an instruction at PC always answers a next state, and so do the interrupt response and the reset. -/
theorem stepNeverStops : Obligations.StepNeverStops := by
  intro s
  obtain hrun | ⟨p, hint⟩ | hreset := boundary_cases s
  · obtain ⟨i, t, u, -, -, hnext⟩ := runInstruction_next (afterBoundary s)
    exact ⟨_, (step_execute hrun).trans hnext⟩
  · exact ⟨_, step_interrupt hint⟩
  · exact ⟨_, step_reset hreset⟩

/-! ### The cycle counter -/

/-- No update of an instruction counts clocks. -/
theorem Updates.cycles_eq {i : Instr} {s t : State} (h : Updates i s t) : t.cycles = s.cycles := by
  induction h with
  | refl => rfl
  | setReg _ ih | setSp _ ih | setDp _ ih | memRead _ ih | memWrite _ ih => simpa using ih
  | setF _ _ ih | setPc _ _ ih | setIe _ _ ih | setNoSample _ _ ih => simpa using ih

/-- The fetch counts no clocks. -/
theorem FetchesBytes.cycles_eq {s t : State} {bytes : List Byte} (h : FetchesBytes s bytes t) :
    t.cycles = s.cycles := by
  have hstate : (fetchBytes bytes.length s).2 = t := congrArg Prod.snd ((fetchesBytes_iff _ _ _).mp h)
  rw [← hstate, fetchBytes_frame]

/-- Every entry of the Clocks column lies between 2 and 21 (70_reset_and_hazards.md R490). -/
theorem clockGrid_bounds :
    ∀ r < 16, ∀ c < 16, 2 ≤ (clockGrid.getD r []).getD c 0 ∧ (clockGrid.getD r []).getD c 0 ≤ 21 := by
  decide

theorem clocksOf_bounds (opcode : Byte) : 2 ≤ clocksOf opcode ∧ clocksOf opcode ≤ 21 := by
  have hopcode := opcode.isLt
  exact clockGrid_bounds _ (by omega) _ (Nat.mod_lt _ (by decide))

theorem clocks_bounds (i : Instr) : 2 ≤ clocks i ∧ clocks i ≤ 21 := clocksOf_bounds (opcodeOf i)

/-- An instruction at PC counts the clocks of its opcode and nothing else. -/
theorem runInstruction_cycles {s t : State} (h : runInstruction s = .next t) :
    ∃ i u, FetchesBytes s (encode i) u ∧ t.cycles = s.cycles + clocks i := by
  obtain ⟨i, u, v, hfetch, hexec, hnext⟩ := runInstruction_next s
  obtain rfl : v.addCycles (clocks i) = t := Host.Outcome.next.inj (hnext.symm.trans h)
  refine ⟨i, u, hfetch, ?_⟩
  rw [addCycles_cycles, (updates_of_exec hexec).cycles_eq, hfetch.cycles_eq]

/-- Settles O11: clocks are counted once in each of the three cases of a step, after all else is done. -/
theorem cyclesCounted : Obligations.CyclesCounted := by
  intro s t h
  refine ⟨fun hexecutes => ?_, fun p hint => ?_, fun hreset => ?_⟩
  · obtain ⟨i, u, hfetch, hcycles⟩ := runInstruction_cycles ((step_execute hexecutes).symm.trans h)
    exact ⟨i, u, hfetch, hcycles, clocks_bounds i⟩
  · obtain rfl := Host.Outcome.next.inj ((step_interrupt hint).symm.trans h)
    rw [addCycles_cycles, interruptResponse_cycles, dropInput_cycles, interruptClocks]
  · obtain rfl := Host.Outcome.next.inj ((step_reset hreset).symm.trans h)
    rfl

end Sys2Proof.Machine
end

section
/-! PROOF. Interrupts, the return from them, and reset (60_exceptions.md section 2; 70_reset_and_hazards.md section 1:
O17, O18, O19, O21). -/

namespace Sys2Proof.Machine

/-! ### The interrupt response -/

/-- Twice the pointer is an address (60_exceptions.md R456). -/
theorem vectorAddress_toNat {p : Byte} (h : p.toNat < 128) : (vectorAddress p).toNat = 2 * p.toNat := by
  rw [vectorAddress, if_pos h, BitVec.toNat_ofNat]
  omega

theorem vectorAddress_high {p : Byte} (h : 128 ≤ p.toNat) : vectorAddress p = Config.vectorHigh p :=
  if_neg (Nat.not_lt.mpr h)

/-- The response as a push and two reads, with three fields of the state replaced. -/
theorem interruptResponse_reads (p : Byte) (s : State) :
    ∃ lo hi u w, ReadsByte (s.push16 s.pc) (vectorAddress p) lo u ∧ ReadsByte u (vectorAddress p + 1) hi w ∧
      interruptResponse p s = { w with pc := join16 hi lo, ie := false } :=
  ⟨_, _, _, _, memRead_reads _ _, memRead_reads _ _, rfl⟩

/-- Settles O17: the response is a push and two reads; the clocks are added after it. -/
theorem interruptTaken : Obligations.InterruptTaken := by
  intro s p h
  obtain ⟨lo, hi, u, w, hlo, hhi, heq⟩ := interruptResponse_reads p s.dropInput
  have hcycles : w.cycles = s.cycles := by
    simpa [heq] using interruptResponse_cycles p s.dropInput
  refine ⟨vectorAddress p, lo, hi, s.dropInput.push16 s.pc, u, w, vectorAddress_toNat, vectorAddress_high,
    push16_pushes s.dropInput s.pc, hlo, hhi, ?_⟩
  rw [step_interrupt h, heq, State.addCycles, hcycles, interruptClocks]

/-! ### The return from an interrupt -/

@[simp] theorem interruptResponse_mem (p : Byte) (s : State) : (interruptResponse p s).mem = (s.push16 s.pc).mem := by
  simp [interruptResponse, readThen_eq]

@[simp] theorem interruptResponse_sp (p : Byte) (s : State) : (interruptResponse p s).sp = (s.push16 s.pc).sp := by
  simp [interruptResponse, readThen_eq]

@[simp] theorem interruptResponse_memMap (p : Byte) (s : State) :
    (interruptResponse p s).memMap = (s.push16 s.pc).memMap := by
  simp [interruptResponse, readThen_eq]

/-- The response leaves the old PC on the stack. -/
theorem stackHolds_interruptResponse (p : Byte) {s : State} (h : StackIsRam s (padd s.sp 0xFFFE) 2) :
    StackHolds (interruptResponse p s) [lo8 s.pc, hi8 s.pc] :=
  (stackHolds_push16 s.pc h).congr (interruptResponse_sp p s) (interruptResponse_mem p s) (interruptResponse_memMap p s)

/-- `RETI` from a stack whose two lowest bytes hold a word goes to that word. -/
theorem exec_reti_of_stackHolds {u : State} {w : Word} (h : StackHolds u [lo8 w, hi8 w]) :
    exec .reti u = .next { u with pc := w, sp := padd u.sp 2, ie := true, noSample := true } :=
  exec_eq_next rfl (by rw [returnFromInterrupt_eq, returnOp_of_stackHolds h])

/-- Settles O21: the response leaves PC on the stack two bytes below SP, it lies there for `u`, and RETI takes it
back. -/
theorem interruptThenReturn : Obligations.InterruptThenReturn := by
  intro s t u p hint hram hstep hsp hmem hmap
  obtain rfl := Host.Outcome.next.inj ((step_interrupt hint).symm.trans hstep)
  have hheld : StackHolds (interruptResponse p s.dropInput) [lo8 s.pc, hi8 s.pc] :=
    stackHolds_interruptResponse p (s := s.dropInput) hram
  have hback : padd u.sp 2 = s.sp := by
    rw [hsp, addCycles_sp, interruptResponse_sp, push16_sp, padd_padd]
    exact padd_zero s.sp
  rw [exec_reti_of_stackHolds (hheld.congr hsp hmem hmap), hback]

/-! ### The instruction after RETI -/

/-- The response at a boundary, with the entry it consumes and the clocks it counts written out. -/
theorem interruptResponse_addCycles (q : Byte) (u : State) :
    (interruptResponse q u.dropInput).addCycles interruptClocks =
      { interruptResponse q { u with inputs := u.inputs.tail } with cycles := u.cycles + 14 } := by
  rw [State.addCycles, interruptResponse_cycles]
  rfl

/-- An entry of the list that presents INT, with IE set and NOSAMPLE clear, is served. -/
theorem takesInterrupt_of_inputs {u : State} {q : Byte} {rest : List Input} (hinputs : u.inputs = .interrupt q :: rest)
    (hie : u.ie = true) (hnoSample : u.noSample = false) : TakesInterrupt u q :=
  ⟨by rw [State.input, hinputs, List.headD_cons], hnoSample, hie⟩

/-- What `RETI` leaves in the two interrupt bits (60_exceptions.md R459). -/
theorem interruptBits_of_exec_reti {s t : State} (h : exec .reti s = .next t) : t.ie = true ∧ t.noSample = true := by
  obtain ⟨w, u, -, heq⟩ := exec_reti_pops s
  obtain rfl := Host.Outcome.next.inj (heq.symm.trans h)
  exact ⟨rfl, rfl⟩

/-- With NOSAMPLE set the boundary leads to an instruction although INT is presented (60_exceptions.md R459). -/
theorem boundary_of_noSample {t : State} (p : Byte) (later : List Input) (h : t.noSample = true) :
    boundary { t with inputs := .interrupt p :: later } = .execute { t with inputs := later, noSample := false } :=
  boundary_execute (.inr ⟨p, rfl, .inl h⟩)

/-- An interrupt that is taken is served at the boundary, and so by the step (60_exceptions.md R453). -/
theorem served_of_takesInterrupt {u : State} {q : Byte} (h : TakesInterrupt u q) :
    boundary u = .taken { interruptResponse q { u with inputs := u.inputs.tail } with cycles := u.cycles + 14 } ∧
    step u = .next { interruptResponse q { u with inputs := u.inputs.tail } with cycles := u.cycles + 14 } := by
  rw [← interruptResponse_addCycles]
  exact ⟨boundary_interrupt h, step_interrupt h⟩

/-- Settles O18: NOSAMPLE keeps the boundary after RETI from sampling INT; the step of the instruction there leaves
the rest of the environment's list, whose first entry the next boundary serves. -/
theorem returnGrace : Obligations.ReturnGrace := by
  refine ⟨fun s t p later hreti => ?_, fun u q rest hinputs hie hnoSample =>
    served_of_takesInterrupt (takesInterrupt_of_inputs hinputs hie hnoSample)⟩
  obtain ⟨hie, hnoSample⟩ := interruptBits_of_exec_reti hreti
  refine ⟨hie, hnoSample, boundary_of_noSample p later hnoSample, ⟨rfl, rfl, hie⟩, ?_⟩
  intro u q rest hlater hstep hieNext hnoSampleNext
  obtain ⟨-, hinputs, -⟩ := environmentKept _ _ hstep
  exact (served_of_takesInterrupt (takesInterrupt_of_inputs (hinputs.trans hlater) hieNext hnoSampleNext)).2

/-! ### Reset -/

/-- Settles O19: the instruction and the reset input both do the reset sequence. -/
theorem resetSequence : Obligations.ResetSequence :=
  ⟨fun s => exec_eq_next rfl (resetOp_eq s),
   fun _ hreset => (step_reset hreset).trans (by rw [resetOp_eq, State.addCycles, State.dropInput])⟩

end Sys2Proof.Machine
end
